-- ==== Sys2Proof/Word.lean ====
section
/-! DEFINITION. The two word types of the machine (spec/00_scope.md R7, R8): the 8-bit byte of the
bus and of the general registers, and the 16-bit word of SP, PC, the pairs and the addresses. -/

namespace Sys2Proof

/-- One byte: a general register, a memory byte, an opcode byte (R7, R20, R60). -/
abbrev Byte := BitVec 8

/-- One 16-bit word: SP, PC, a register pair, an address (R7, R20, R60). -/
abbrev Word := BitVec 16

end Sys2Proof
end

