-- ==== Sys2Proof/WellFormed.lean ====
section
/-! DEFINITION. Which terms of `Instr` are instructions a decoder can give. Operand widths are fixed
by the types (every value of `n`, `e`, `nn`, `pad` is legal, R109, R120), so one check is left. -/

namespace Sys2Proof

/-- Every constructor is an instruction but the prefix row: R121 says of it that it "tells a decoder
to look the pair up in the CB-page rows", so the bytes `CB op2` are the CB-page row's instruction and
`prefix_CB op2` is a second spelling of it. -/
def Instr.wellFormed : Instr → Bool
  | .prefix_CB _ => false
  | _ => true

end Sys2Proof
end

