-- ==== Sys2Proof/Machine/CycleTable.lean ====
section
/-! DEFINITION. The cycle table of spec/70_reset_and_hazards.md R415 as configuration: R416 asks a model to
"take the cycle table as configuration, with rule R415 as its default value". Counts are M-cycles. -/

namespace Sys2Proof

/-- The "fixed per-opcode tables" of R307: sixteen rows by high nibble of sixteen columns by low nibble. -/
structure CycleTable where
  /-- The base count by opcode. -/
  base : List (List Nat)
  /-- The branch-taken counts: the opcode of a conditional instruction and its count. -/
  taken : List (Byte × Nat)
  /-- The count of a CB-page instruction by its second opcode, prefix included. -/
  cb : List (List Nat)
  deriving DecidableEq, Repr

/-- The entry of a 16 by 16 table at an opcode; 0 where the table has none. -/
def tableEntry (rows : List (List Nat)) (op : Byte) : Nat :=
  (rows.getD (op.toNat / 16) []).getD (op.toNat % 16) 0

/-- The base count of an opcode. -/
def CycleTable.baseCount (t : CycleTable) (op : Byte) : Nat := tableEntry t.base op

/-- The branch-taken count of an opcode; the base count where none is listed. -/
def CycleTable.takenCount (t : CycleTable) (op : Byte) : Nat :=
  match t.taken.find? fun entry => decide (entry.1 = op) with
  | some entry => entry.2
  | none => t.baseCount op

/-- The count of a CB-page instruction. -/
def CycleTable.cbCount (t : CycleTable) (op2 : Byte) : Nat := tableEntry t.cb op2

/-- The base counts of R415. The eleven undefined opcodes (`--`, "not defined" by R243) and the prefix
stand as 0: no step uses their entry. -/
def standardBase : List (List Nat) :=
  [[1, 3, 2, 2, 1, 1, 2, 1, 5, 2, 2, 2, 1, 1, 2, 1],
   [1, 3, 2, 2, 1, 1, 2, 1, 3, 2, 2, 2, 1, 1, 2, 1],
   [2, 3, 2, 2, 1, 1, 2, 1, 2, 2, 2, 2, 1, 1, 2, 1],
   [2, 3, 2, 2, 3, 3, 3, 1, 2, 2, 2, 2, 1, 1, 2, 1],
   [1, 1, 1, 1, 1, 1, 2, 1, 1, 1, 1, 1, 1, 1, 2, 1],
   [1, 1, 1, 1, 1, 1, 2, 1, 1, 1, 1, 1, 1, 1, 2, 1],
   [1, 1, 1, 1, 1, 1, 2, 1, 1, 1, 1, 1, 1, 1, 2, 1],
   [2, 2, 2, 2, 2, 2, 1, 2, 1, 1, 1, 1, 1, 1, 2, 1],
   [1, 1, 1, 1, 1, 1, 2, 1, 1, 1, 1, 1, 1, 1, 2, 1],
   [1, 1, 1, 1, 1, 1, 2, 1, 1, 1, 1, 1, 1, 1, 2, 1],
   [1, 1, 1, 1, 1, 1, 2, 1, 1, 1, 1, 1, 1, 1, 2, 1],
   [1, 1, 1, 1, 1, 1, 2, 1, 1, 1, 1, 1, 1, 1, 2, 1],
   [2, 3, 3, 4, 3, 4, 2, 4, 2, 4, 3, 0, 3, 6, 2, 4],
   [2, 3, 3, 0, 3, 4, 2, 4, 2, 4, 3, 0, 3, 0, 2, 4],
   [3, 3, 2, 0, 0, 4, 2, 4, 4, 1, 4, 0, 0, 0, 2, 4],
   [3, 3, 2, 1, 0, 4, 2, 4, 3, 2, 4, 1, 0, 0, 2, 4]]

/-- The branch-taken counts of R415: `JR cc` 3, `RET cc` 5, `JP cc` 4, `CALL cc` 6. -/
def standardTaken : List (Byte × Nat) :=
  [(0x20#8, 3), (0x28#8, 3), (0x30#8, 3), (0x38#8, 3), (0xC0#8, 5), (0xC8#8, 5), (0xD0#8, 5), (0xD8#8, 5),
   (0xC2#8, 4), (0xCA#8, 4), (0xD2#8, 4), (0xDA#8, 4), (0xC4#8, 6), (0xCC#8, 6), (0xD4#8, 6), (0xDC#8, 6)]

/-- A row of the CB page whose `(HL)` forms take `m`: 2 for a register (R415). -/
def cbRow (m : Nat) : List Nat := [2, 2, 2, 2, 2, 2, m, 2, 2, 2, 2, 2, 2, 2, m, 2]

/-- The counts of the CB page of R415: 4 for the `(HL)` forms, but 3 for `BIT b,(HL)`. -/
def standardCb : List (List Nat) :=
  List.replicate 4 (cbRow 4) ++ List.replicate 4 (cbRow 3) ++ List.replicate 8 (cbRow 4)

/-- R415, the default value R416 names. -/
def CycleTable.default : CycleTable := { base := standardBase, taken := standardTaken, cb := standardCb }

end Sys2Proof
end

