-- ==== Sys2Proof/Config.lean ====
section
/-! DEFINITION. What the spec leaves to an implementation: the parameters of spec/00_scope.md R7 as
plain data (State carries one record of them, no step changes it, so a statement about every state
is a statement about every choice of the parameters), and the free values, which have no body. -/

namespace Sys2Proof

/-- `HALT_BUG_MODE` (R7, R303, decision D8). -/
inductive HaltBugMode where
  | whileHalted
  | atHaltOnly
  deriving DecidableEq, Repr

/-- `ECHO_HIGH`: where 0xF000..0xFDFF go (R7, R71, decision D17). -/
inductive EchoHigh where
  | wrap
  | bank1
  deriving DecidableEq, Repr

/-- `IE_UPPER`: what bits 7 to 5 of the interrupt-enable byte read as (R7, R35, decision D14). -/
inductive IeUpper where
  | stored
  | ones
  | zeros
  deriving DecidableEq, Repr

/-- `RESET_PRESET` (R7, R44, decision D15). -/
inductive ResetPreset where
  | powerOn
  | postBoot
  deriving DecidableEq, Repr

/-- The parameters of R7 that rules other than the reset rules read, and the cycle table, which R416 and
item U14 make configuration. -/
structure Params where
  /-- `HALT_BUG_MODE`, default `while_halted`. -/
  haltBugMode : HaltBugMode
  /-- `ECHO_HIGH`, default `wrap`. -/
  echoHigh : EchoHigh
  /-- `IE_UPPER`, default `stored`. -/
  ieUpper : IeUpper
  /-- `JOYP_READ`, default 0xFF. -/
  joypRead : Byte
  /-- `DRAWING_LEN`: `some n` gives the dots DRAWING lasts, `none` leaves the length to the
  renderer and its free schedule (R354, decision D28). -/
  drawingLen : Option Nat
  /-- `BOOT_ROM`: absent, or 256 bytes (R73, decision D24). -/
  bootRom : Option (List Byte)
  /-- The cycle table, default R415 (R416, decision D26). -/
  cycles : CycleTable
  deriving DecidableEq, Repr

/-- The defaults of R7; where R7 names none (`DRAWING_LEN`, `BOOT_ROM`) the values of the spec's own
test vectors, 95_test_vectors.md: 172 dots and no boot ROM. DESIGN CHOICE, log 5. The cycle table is R415's (R416). -/
def Params.default : Params where
  haltBugMode := .whileHalted
  echoHigh := .wrap
  ieUpper := .stored
  joypRead := 0xFF#8
  drawingLen := some 172
  bootRom := none
  cycles := .default

/-- The preset that `State.reset` takes: `power_on`, the default of R7. -/
def Config.resetPreset : ResetPreset := .powerOn

/-- Free value: what a read of the write-only DMA trigger 0xFF46 gives (R85, item U6), one value for
each value of State's counter `freeCtr`. Log 6. -/
opaque Config.freeByte : Nat → Byte

/-- Free value: whether the renderer makes no progress in a DRAWING dot (R354, item U11), one value
for each value of the video controller's counter `drawCtr`; read only when the parameter
`DRAWING_LEN` is not given. Log 7. -/
opaque Config.drawStall : Nat → Bool

/-- Free value: `CART.read` of a cartridge other than `rom_only`, of its private state and the
address only (R72, item U12). Log 8. -/
opaque Config.cartRead : Nat → Word → Byte

/-- Free value: `CART.write`, the cartridge's private state after a write (R72, item U12). Log 8. -/
opaque Config.cartWrite : Nat → Word → Byte → Nat

/-- Free value: `CART.read_sram` (R72, item U12). Log 8. -/
opaque Config.cartReadSram : Nat → Word → Byte

/-- Free value: `CART.write_sram` (R72, item U12). Log 8. -/
opaque Config.cartWriteSram : Nat → Word → Byte → Nat

end Sys2Proof
end

