-- ==== Sys2Proof/Machine/State.lean ====
section
/-! DEFINITION. The state of the machine, as plain data: the CPU (spec/10_state.md R20 to R36), the
dispatcher (R38, R40), the timer (R41), the video controller (R42, spec/60_exceptions.md R351), the
driver's count (R370), the parameters (spec/00_scope.md R7) and one counter of the model's own; the
reasons a step can stop; and the state after reset (R44). -/

namespace Sys2Proof.Machine

/-- The storage behind the address space: address and byte, addresses strictly rising, no entry equal
to what an unlisted address reads as (`Memory.unlisted`). The keys are CPU addresses: 0x0000..0x7FFF
the ROM image of the `rom_only` cartridge (R72), 0x8000..0x9FFF VRAM, 0xC000..0xCFFF WRAM bank 0,
0xD000..0xDFFF WRAM bank 1, 0xFE00..0xFE9F OAM, the stub registers of R78 at their I/O addresses,
0xFF80..0xFFFE HRAM (R38, R66). -/
abbrev Memory := List Host.Cell

/-- `cpu_mode` (R33). -/
inductive CpuMode where
  | running
  /-- Entered by an undefined opcode; `opcode` is the byte R331 records "for the model's report only". -/
  | locked (opcode : Byte)
  /-- Entered by STOP. -/
  | stopped
  deriving DecidableEq, Repr

/-- The cartridge capability `CART` (R72). -/
inductive Cart where
  /-- The instance `rom_only` of R72; its ROM image lies in the memory list. -/
  | romOnly
  /-- Any other cartridge: its private state as a number, its four functions the free values
  `Config.cartRead`, `cartWrite`, `cartReadSram`, `cartWriteSram`. Log 8. -/
  | external (priv : Nat)
  deriving DecidableEq, Repr

/-- The timer (R41, R343). -/
structure Timer where
  /-- The 16-bit free-running divider. -/
  div16 : Word
  tima : Byte
  tma : Byte
  tac : BitVec 3
  /-- 0..4; T-cycles until the pending reload, 0 when none is pending. -/
  reloadDelay : Nat
  deriving DecidableEq, Repr

/-- VideoMode (R351). -/
inductive VideoMode where
  | hblank | vblank | oamScan | drawing
  deriving DecidableEq, Repr

/-- The five states of a fetcher (R360). -/
inductive FetchStage where
  | getTile | dataLow | dataHigh | sleep | push
  deriving DecidableEq, Repr

/-- One entry of the per-scanline sprite buffer: an OAM entry and its table index (R358). -/
structure Sprite where
  index : Nat
  y : Byte
  x : Byte
  tile : Byte
  flags : Byte
  deriving DecidableEq, Repr

/-- One pixel of the sprite FIFO (R362, R364). -/
structure SpritePixel where
  colour : BitVec 2
  /-- The palette-select flag: OBP1 when set. -/
  obp1 : Bool
  /-- The background-priority flag. -/
  behind : Bool
  deriving DecidableEq, Repr

/-- The background/window fetcher (R360). -/
structure BgFetcher where
  stage : FetchStage
  /-- Dots already spent in the stage. -/
  dots : Nat
  /-- `tile_x`: tiles of the layer fetched so far on this scanline. -/
  column : Nat
  /-- Whether it fetches the window layer (R363). -/
  window : Bool
  tile : Byte
  low : Byte
  high : Byte
  deriving DecidableEq, Repr

/-- The sprite fetcher (R360, R362). -/
structure SpriteFetcher where
  /-- The sprite being fetched, if one is. -/
  sprite : Option Sprite
  stage : FetchStage
  dots : Nat
  low : Byte
  high : Byte
  deriving DecidableEq, Repr

/-- The video controller (R42, R351, R352). -/
structure Ppu where
  mode : VideoMode
  /-- 0..455, dots elapsed in the scanline. -/
  dot : Nat
  /-- 0..153, the scanline, read as LY. -/
  ly : Nat
  /-- The window-line counter. -/
  winLine : Nat
  /-- 0..160, the output column. -/
  lx : Nat
  lcdc : Byte
  stat : Byte
  scy : Byte
  scx : Byte
  lyc : Byte
  bgp : Byte
  obp0 : Byte
  obp1 : Byte
  wy : Byte
  wx : Byte
  /-- At most 10 sprites, the ones of the scanline not fetched yet, in render order (R358, R362). -/
  sprites : List Sprite
  bgFifo : List (BitVec 2)
  spriteFifo : List SpritePixel
  bgFetch : BgFetcher
  spriteFetch : SpriteFetcher
  /-- The shades of the framebuffer by `160 * line + column` (R364), in the canonical form of `Memory`. That a
  position nothing has drawn holds shade 0, white, is the model's: DESIGN CHOICE, log 28. -/
  framebuffer : Memory
  /-- The model's own: DRAWING dots so far, the argument of the free value `Config.drawStall`. -/
  drawCtr : Nat
  deriving DecidableEq, Repr

structure State where
  /-- The accumulator (R20). -/
  a : Byte
  /-- The flags register: Z, N, H, C in bits 7 to 4, bits 3 to 0 always 0 (R24, R25). -/
  f : Byte
  b : Byte
  c : Byte
  d : Byte
  e : Byte
  h : Byte
  l : Byte
  /-- The stack pointer (R27). -/
  sp : Word
  /-- The program counter (R28). -/
  pc : Word
  /-- The interrupt master enable (R29). -/
  ime : Bool
  /-- The EI delay (R31). -/
  imePending : Bool
  /-- R30. -/
  halted : Bool
  /-- The HALT bug is armed (R32). -/
  haltBug : Bool
  /-- R33. -/
  cpuMode : CpuMode
  /-- The interrupt-flag byte IF, its five significant bits (R34). -/
  requested : BitVec 5
  /-- The interrupt-enable byte IE; bits 4 to 0 are `enabled` (R35). -/
  ie : Byte
  /-- 0..640, T-cycles of DMA lockout left (R40, R84). -/
  dmaRemaining : Nat
  /-- The inverse of the boot-ROM-disable latch (R40, R73). -/
  bootRomEnabled : Bool
  timer : Timer
  ppu : Ppu
  mem : Memory
  cart : Cart
  /-- The driver's T-cycles into the current frame (R370). -/
  frameElapsed : Nat
  /-- The parameters of R7; no step changes them. -/
  params : Params
  /-- The model's own: the argument of the free value `Config.freeByte`. -/
  freeCtr : Nat
  deriving DecidableEq, Repr

/-- Why a step ends in a fault. -/
inductive Fault where
  /-- `Locked(opcode)` (R331): raised by the step that executes one of the eleven undefined opcodes,
  and by a step of a locked machine (R308). Safe: R331 wants a fault here. -/
  | locked (opcode : Byte)
  deriving DecidableEq, Repr

/-- Why a step is refused. -/
inductive Refusal where
  /-- An instruction without a meaning: raised by an arm of `exec` that has none (there is none). Safe. -/
  | notModelled (mnemonic : String)
  /-- `Stopped()` (R332): raised by the step that executes STOP, and by a step of a stopped machine
  (R308). Safe: R332 wants a refusal here. -/
  | stopped
  deriving DecidableEq, Repr

/-- The timer after reset (R41). -/
def Timer.reset : ResetPreset → Timer
  | .powerOn => { div16 := 0x0000#16, tima := 0x00#8, tma := 0x00#8, tac := 0#3, reloadDelay := 0 }
  | .postBoot => { div16 := 0xABCC#16, tima := 0x00#8, tma := 0x00#8, tac := 0#3, reloadDelay := 0 }

/-- The background fetcher in GET_TILE (R360). -/
def BgFetcher.idle : BgFetcher :=
  { stage := .getTile, dots := 0, column := 0, window := false, tile := 0#8, low := 0#8, high := 0#8 }

/-- The sprite fetcher with no sprite (R360). -/
def SpriteFetcher.idle : SpriteFetcher :=
  { sprite := none, stage := .getTile, dots := 0, low := 0#8, high := 0#8 }

/-- The video controller after reset under `power_on`: display off, frozen (R365). R365 gives no value for the
two fetchers, which the model puts idle (DESIGN CHOICE, log 27), and no rule gives the contents of the
framebuffer, which is white (DESIGN CHOICE, log 28). -/
def Ppu.resetPowerOn : Ppu where
  mode := .hblank
  dot := 0
  ly := 0
  winLine := 0
  lx := 0
  lcdc := 0x00#8
  stat := 0x00#8
  scy := 0x00#8
  scx := 0x00#8
  lyc := 0x00#8
  bgp := 0x00#8
  obp0 := 0x00#8
  obp1 := 0x00#8
  wy := 0x00#8
  wx := 0x00#8
  sprites := []
  bgFifo := []
  spriteFifo := []
  bgFetch := .idle
  spriteFetch := .idle
  framebuffer := []
  drawCtr := 0

/-- The video controller after reset (R365). Under `post_boot` R365 leaves OBP0 and OBP1 unspecified: the model's
value is 0 (DESIGN CHOICE, log 16); the fetchers and the framebuffer are as under `power_on` (log 27, 28). -/
def Ppu.reset : ResetPreset → Ppu
  | .powerOn => Ppu.resetPowerOn
  | .postBoot => { Ppu.resetPowerOn with mode := .oamScan, lcdc := 0x91#8, stat := 0x06#8, bgp := 0xFC#8 }

/-- The state after reset under a preset, with the parameters, the cartridge and the ROM image the
host supplies (R44, R371, R400 to R402). Under `power_on` R23 leaves A, F[7:4], B, C, D, E, H, L and
SP unspecified: the model's value is 0, log 1. -/
def State.resetWith (preset : ResetPreset) (params : Params) (cart : Cart) (rom : Memory) : State :=
  match preset with
  | .powerOn =>
    { a := 0x00#8, f := 0x00#8, b := 0x00#8, c := 0x00#8, d := 0x00#8, e := 0x00#8, h := 0x00#8, l := 0x00#8
      sp := 0x0000#16, pc := 0x0000#16
      ime := false, imePending := false, halted := false, haltBug := false, cpuMode := .running
      requested := 0b00000#5, ie := 0x00#8, dmaRemaining := 0, bootRomEnabled := params.bootRom.isSome
      timer := Timer.reset .powerOn, ppu := Ppu.reset .powerOn, mem := rom, cart := cart
      frameElapsed := 0, params := params, freeCtr := 0 }
  | .postBoot =>
    { a := 0x01#8, f := 0xB0#8, b := 0x00#8, c := 0x13#8, d := 0x00#8, e := 0xD8#8, h := 0x01#8, l := 0x4D#8
      sp := 0xFFFE#16, pc := 0x0100#16
      ime := false, imePending := false, halted := false, haltBug := false, cpuMode := .running
      requested := 0b00001#5, ie := 0x00#8, dmaRemaining := 0, bootRomEnabled := false
      timer := Timer.reset .postBoot, ppu := Ppu.reset .postBoot, mem := rom, cart := cart
      frameElapsed := 0, params := params, freeCtr := 0 }

/-- The machine right after reset: the preset `power_on`, the default parameters, the cartridge
`rom_only` with no byte listed (R7, R44; log 1, 2, 4, 5, 27, 28). -/
def State.reset : State := State.resetWith Config.resetPreset Params.default .romOnly []

end Sys2Proof.Machine
end

