-- ==== Sys2Proof/Machine/Flags.lean ====
section
/-! DEFINITION. The flags register and every flag computation of the spec: the ALU functions
(spec/42_block2.md R181 to R183), the 16-bit adds (R136, R244), 8-bit increment and decrement (R148,
R150), the rotates and shifts (R154 to R157, R261), DAA (R158). As the spec's pseudocode does,
sums and comparisons are taken on natural numbers and cut to the width at the end (R8). -/

namespace Sys2Proof.Machine

/-! The four flags (R24). -/

/-- `fZ`, bit 7 of F. -/
def State.fZ (s : State) : Bool := s.f.getLsbD 7

/-- `fN`, bit 6 of F. -/
def State.fN (s : State) : Bool := s.f.getLsbD 6

/-- `fH`, bit 5 of F. -/
def State.fH (s : State) : Bool := s.f.getLsbD 5

/-- `fC`, bit 4 of F. -/
def State.fC (s : State) : Bool := s.f.getLsbD 4

/-- The flags byte of four flags; its low nibble is 0 (R24, R25). -/
def packFlags (z n h c : Bool) : Byte :=
  BitVec.ofBool z ++ BitVec.ofBool n ++ BitVec.ofBool h ++ BitVec.ofBool c ++ 0#4

/-- Write the four flags. -/
def State.setFlags (s : State) (z n h c : Bool) : State := { s with f := packFlags z n h c }

/-- A condition of the table `cc` (R106). -/
def State.cond (s : State) : Cond → Bool
  | .nz => !s.fZ
  | .z => s.fZ
  | .nc => !s.fC
  | .c => s.fC

/-- A result byte and the four flags that go with it. -/
structure AluResult where
  res : Byte
  z : Bool
  n : Bool
  h : Bool
  c : Bool
  deriving DecidableEq, Repr

/-- `Add8(a, b, cin)` (R181). -/
def add8 (a b : Byte) (cin : Bool) : AluResult :=
  let sum := a.toNat + b.toNat + cin.toNat
  let res := BitVec.ofNat 8 sum
  { res := res
    z := decide (res = 0#8)
    n := false
    h := decide (0x0F < a.toNat % 16 + b.toNat % 16 + cin.toNat)
    c := decide (0xFF < sum) }

/-- `Sub8(a, b, cin)` (R182). -/
def sub8 (a b : Byte) (cin : Bool) : AluResult :=
  let res := BitVec.ofInt 8 ((a.toNat : Int) - b.toNat - cin.toNat)
  { res := res
    z := decide (res = 0#8)
    n := true
    h := decide (a.toNat % 16 < b.toNat % 16 + cin.toNat)
    c := decide (a.toNat < b.toNat + cin.toNat) }

/-- `And8(a, b)` (R183). -/
def and8 (a b : Byte) : AluResult :=
  { res := a &&& b, z := decide (a &&& b = 0#8), n := false, h := true, c := false }

/-- `Xor8(a, b)` (R183). -/
def xor8 (a b : Byte) : AluResult :=
  { res := a ^^^ b, z := decide (a ^^^ b = 0#8), n := false, h := false, c := false }

/-- `Or8(a, b)` (R183). -/
def or8 (a b : Byte) : AluResult :=
  { res := a ||| b, z := decide (a ||| b = 0#8), n := false, h := false, c := false }

/-- The function of an entry of the ALU table, with the old `fC` (R107, R184 to R199). -/
def aluFn (op : AluOp) (a b : Byte) (fc : Bool) : AluResult :=
  match op with
  | .add => add8 a b false
  | .adc => add8 a b fc
  | .sub => sub8 a b false
  | .sbc => sub8 a b fc
  | .and => and8 a b
  | .xor => xor8 a b
  | .or => or8 a b
  | .cp => sub8 a b false

/-- 8-bit increment; `c` is the flag kept (R148). -/
def inc8 (v : Byte) (c : Bool) : AluResult :=
  let res := BitVec.ofNat 8 (v.toNat + 1)
  { res := res, z := decide (res = 0#8), n := false, h := decide (v.toNat % 16 = 0x0F), c := c }

/-- 8-bit decrement; `c` is the flag kept (R150). -/
def dec8 (v : Byte) (c : Bool) : AluResult :=
  let res := BitVec.ofInt 8 ((v.toNat : Int) - 1)
  { res := res, z := decide (res = 0#8), n := true, h := decide (v.toNat % 16 = 0x00), c := c }

/-- `Add16(a, b)`: the sum, the carry out of bit 11, the carry out of bit 15 (R136). -/
def add16 (a b : Word) : Word × Bool × Bool :=
  (BitVec.ofNat 16 (a.toNat + b.toNat),
   decide (0x0FFF < a.toNat % 0x1000 + b.toNat % 0x1000),
   decide (0xFFFF < a.toNat + b.toNat))

/-- `sext_16(e)` (R8). -/
def sext16 (e : Byte) : Word := e.signExtend 16

/-- `AddSP(sp, e)`: the sum, the carry out of bit 3, the carry out of bit 7 (R244). -/
def addSP (sp : Word) (e : Byte) : Word × Bool × Bool :=
  (sp + sext16 e,
   decide (0x0F < sp.toNat % 16 + e.toNat % 16),
   decide (0xFF < sp.toNat % 256 + e.toNat))

/-- The eight functions of class 0 of the CB page: result and carry out, of the byte and the old
`fC` (R261). -/
def rotFn (op : RotOp) (v : Byte) (fc : Bool) : Byte × Bool :=
  match op with
  | .rlc => (v.extractLsb' 0 7 ++ v.extractLsb' 7 1, v.getLsbD 7)
  | .rrc => (v.extractLsb' 0 1 ++ v.extractLsb' 1 7, v.getLsbD 0)
  | .rl => (v.extractLsb' 0 7 ++ BitVec.ofBool fc, v.getLsbD 7)
  | .rr => (BitVec.ofBool fc ++ v.extractLsb' 1 7, v.getLsbD 0)
  | .sla => (v.extractLsb' 0 7 ++ 0#1, v.getLsbD 7)
  | .sra => (v.extractLsb' 7 1 ++ v.extractLsb' 1 7, v.getLsbD 0)
  | .swap => (v.extractLsb' 0 4 ++ v.extractLsb' 4 4, false)
  | .srl => (0#1 ++ v.extractLsb' 1 7, v.getLsbD 0)

/-- A rotate or shift of the CB page with its flags (R261). -/
def rotResult (op : RotOp) (v : Byte) (fc : Bool) : AluResult :=
  { res := (rotFn op v fc).1, z := decide ((rotFn op v fc).1 = 0#8), n := false, h := false, c := (rotFn op v fc).2 }

/-- The four rotates of the accumulator: the CB page's functions with `fZ` cleared (R154 to R157). -/
def rotAResult (op : RotOp) (v : Byte) (fc : Bool) : AluResult :=
  { res := (rotFn op v fc).1, z := false, n := false, h := false, c := (rotFn op v fc).2 }

/-- Whether DAA makes the lower correction (R158). -/
def daaLow (a : Byte) (n h : Bool) : Bool := h || (!n && decide (0x09 < a.toNat % 16))

/-- Whether DAA makes the upper correction; it is also the new `fC` (R158). -/
def daaHigh (a : Byte) (n c : Bool) : Bool := c || (!n && decide (0x99 < a.toNat))

/-- The adjustment of DAA (R158). -/
def daaAdjust (a : Byte) (n h c : Bool) : Byte :=
  (if daaLow a n h then 0x06#8 else 0x00#8) ||| (if daaHigh a n c then 0x60#8 else 0x00#8)

/-- `DAA` (R158). -/
def daaResult (a : Byte) (n h c : Bool) : AluResult :=
  let res := if n then a - daaAdjust a n h c else a + daaAdjust a n h c
  { res := res, z := decide (res = 0#8), n := n, h := false, c := daaHigh a n c }

end Sys2Proof.Machine
end

