-- ==== Sys2Proof/Machine/Timer.lean ====
section
/-! DEFINITION. The timer (spec/60_exceptions.md R343 to R350). Each operation answers the timer and
whether it requests the Timer interrupt. -/

namespace Sys2Proof.Machine

/-- The divider bit `sel` that `tac[1:0]` selects (R345). -/
def Timer.sel (t : Timer) : Nat :=
  match (t.tac.extractLsb' 0 2).toNat with
  | 0 => 9
  | 1 => 3
  | 2 => 5
  | _ => 7

/-- `Sig()` (R346). -/
def Timer.sig (t : Timer) : Bool := t.tac.getLsbD 2 && t.div16.getLsbD t.sel

/-- `IncTima()` (R347). -/
def Timer.incTima (t : Timer) : Timer × Bool :=
  if t.tima = 0xFF#8 then ({ t with tima := 0x00#8, reloadDelay := 4 }, true)
  else ({ t with tima := t.tima + 1#8 }, false)

/-- `IncTima()` when the signal was 1 before a change and is 0 after it (R346). -/
def Timer.fallingEdge (before : Bool) (t : Timer) : Timer × Bool :=
  if before && !t.sig then t.incTima else (t, false)

/-- The reload countdown at the start of a tick (R348). -/
def Timer.countdown (t : Timer) : Timer :=
  if t.reloadDelay = 0 then t
  else if t.reloadDelay = 1 then { t with reloadDelay := 0, tima := t.tma }
  else { t with reloadDelay := t.reloadDelay - 1 }

/-- `TimerTick()` (R348). -/
def Timer.tick (t : Timer) : Timer × Bool :=
  Timer.fallingEdge t.countdown.sig { t.countdown with div16 := t.countdown.div16 + 1#16 }

/-- `TimerAdvance(c)` (R348): `irq` says whether a tick so far requested the interrupt. -/
def Timer.advance : Nat → Timer → Bool → Timer × Bool
  | 0, t, irq => (t, irq)
  | n + 1, t, irq =>
    match t.tick with
    | (t', i) => Timer.advance n t' (irq || i)

/-- A write to DIV, 0xFF04 (R344). -/
def Timer.writeDiv (t : Timer) : Timer × Bool := Timer.fallingEdge t.sig { t with div16 := 0x0000#16 }

/-- A write to TIMA, 0xFF05: it cancels a pending reload (R349). -/
def Timer.writeTima (t : Timer) (v : Byte) : Timer := { t with tima := v, reloadDelay := 0 }

/-- A write to TMA, 0xFF06 (R350). -/
def Timer.writeTma (t : Timer) (v : Byte) : Timer := { t with tma := v }

/-- A write to TAC, 0xFF07 (R345). -/
def Timer.writeTac (t : Timer) (v : Byte) : Timer × Bool :=
  Timer.fallingEdge t.sig { t with tac := v.extractLsb' 0 3 }

end Sys2Proof.Machine
end

