-- ==== Sys2Proof/Machine/Memory.lean ====
section
/-! DEFINITION. The memory list and its canonical form: what an unlisted address reads as, one read,
one write, and the form itself. -/

namespace Sys2Proof.Machine

/-- What an address that nothing has written reads as: 0. R38 leaves the reset contents of RAM
unspecified; the stub registers are 0 at reset by R78. Log 2. -/
def Memory.unlisted (_ : Nat) : Byte := 0x00#8

/-- The byte stored at an address. -/
def Memory.read : Memory → Nat → Byte
  | [], a => Memory.unlisted a
  | (k, w) :: m, a => if a = k then w else Memory.read m a

/-- Store a byte; storing what an unlisted address reads as removes the entry. -/
def Memory.write : Memory → Nat → Byte → Memory
  | [], a, v => if v = Memory.unlisted a then [] else [(a, v)]
  | (k, w) :: m, a, v =>
    if a < k then
      if v = Memory.unlisted a then (k, w) :: m else (a, v) :: (k, w) :: m
    else if a = k then
      if v = Memory.unlisted a then m else (a, v) :: m
    else (k, w) :: Memory.write m a v

/-- Every address of the list lies at or above `lo`, addresses rise strictly, no entry equals the
unlisted value. -/
def Memory.wfFrom : Nat → Memory → Bool
  | _, [] => true
  | lo, (k, w) :: m => decide (lo ≤ k) && decide (w ≠ Memory.unlisted k) && Memory.wfFrom (k + 1) m

/-- The canonical form: equal memories are equal lists. -/
def Memory.wf (m : Memory) : Bool := Memory.wfFrom 0 m

end Sys2Proof.Machine
end

