-- ==== Sys2Proof/Machine/Video.lean ====
section
/-! DEFINITION. The video controller (spec/60_exceptions.md R351 to R365): its mode machine, its
registers, and the pixel-FIFO renderer to the depth the spec gives it. Each operation that can request
an interrupt answers the controller and the mask of the `requested` bits it sets. It reads VRAM and
OAM directly in the memory list, never through the bus (R360). Where R358 to R364 leave a detail open
the model's choice is logged (log 7, 9 to 13, 27 to 35); no instruction can read a pixel (§6), so the only
consequence the CPU sees is the length of DRAWING. -/

namespace Sys2Proof.Machine

/-- The mode number of STAT bits 1..0 (R353). -/
def VideoMode.number : VideoMode → BitVec 2
  | .hblank => 0#2
  | .vblank => 1#2
  | .oamScan => 2#2
  | .drawing => 3#2

/-- `stat[1:0] <- v`. -/
def statWithMode (stat : Byte) (v : BitVec 2) : Byte := stat.extractLsb' 2 6 ++ v

/-- `stat[2] <- v`. -/
def statWithCoincidence (stat : Byte) (v : Bool) : Byte :=
  stat.extractLsb' 3 5 ++ BitVec.ofBool v ++ stat.extractLsb' 0 2

/-- The requests of a mode entry, from the STAT byte (R355, R356). -/
def modeEntryMask (stat : Byte) : VideoMode → BitVec 5
  | .hblank => if stat.getLsbD 3 then 0b00010#5 else 0#5
  | .vblank => if stat.getLsbD 4 then 0b00011#5 else 0b00001#5
  | .oamScan => if stat.getLsbD 5 then 0b00010#5 else 0#5
  | .drawing => 0#5

/-- `EnterMode(m)` (R355). -/
def Ppu.enterMode (p : Ppu) (m : VideoMode) : Ppu × BitVec 5 :=
  ({ p with mode := m, stat := statWithMode p.stat m.number }, modeEntryMask p.stat m)

/-- Whether LY equals LYC (R357). -/
def Ppu.lyMatches (p : Ppu) : Bool := p.ly == p.lyc.toNat

/-- `Coincidence()` (R357). -/
def Ppu.coincidence (p : Ppu) : Ppu × BitVec 5 :=
  ({ p with stat := statWithCoincidence p.stat p.lyMatches },
    if p.lyMatches && p.stat.getLsbD 6 then 0b00010#5 else 0#5)

/-- A mode entry and then the coincidence check, as at the start of a scanline (R354, R359). -/
def Ppu.startLine (p : Ppu) (m : VideoMode) : Ppu × BitVec 5 :=
  match p.enterMode m with
  | (p1, m1) =>
    match p1.coincidence with
    | (p2, m2) => (p2, m1 ||| m2)

/-! Sprite selection (R358). -/

/-- Sprite height (R352 bit 2). -/
def Ppu.spriteHeight (p : Ppu) : Nat := if p.lcdc.getLsbD 2 then 16 else 8

/-- OAM entry `k` (R74, R358). -/
def oamEntry (mem : Memory) (k : Nat) : Sprite where
  index := k
  y := mem.read (0xFE00 + 4 * k)
  x := mem.read (0xFE00 + 4 * k + 1)
  tile := mem.read (0xFE00 + 4 * k + 2)
  flags := mem.read (0xFE00 + 4 * k + 3)

/-- The Y-range test `Y <= ly + 16 < Y + h` (R358). -/
def Ppu.onLine (p : Ppu) (sp : Sprite) : Bool :=
  decide (sp.y.toNat ≤ p.ly + 16) && decide (p.ly + 16 < sp.y.toNat + p.spriteHeight)

/-- Walk `n` entries from `k` in table order, stopping when `room` selections are made (R358). -/
def Ppu.selectSprites (mem : Memory) (p : Ppu) : Nat → Nat → Nat → List Sprite
  | 0, _, _ => []
  | n + 1, k, room =>
    if room = 0 then []
    else if p.onLine (oamEntry mem k) then oamEntry mem k :: Ppu.selectSprites mem p n (k + 1) (room - 1)
    else Ppu.selectSprites mem p n (k + 1) room

/-- Insert a sprite after every sprite whose X is not greater. -/
def insertByX (sp : Sprite) : List Sprite → List Sprite
  | [] => [sp]
  | q :: qs => if q.x.toNat ≤ sp.x.toNat then q :: insertByX sp qs else sp :: q :: qs

/-- Order by X, then by table index: the list comes in table order and insertion is stable (R358). -/
def sortByX (l : List Sprite) : List Sprite := l.foldl (fun acc sp => insertByX sp acc) []

/-- `BuildSpriteBuffer()` (R358). -/
def Ppu.buildSprites (mem : Memory) (p : Ppu) : Ppu :=
  { p with sprites := sortByX (p.selectSprites mem 40 0 10) }

/-- `StartDrawing()` (R360): both FIFOs empty, column 0, the background fetcher in GET_TILE. -/
def Ppu.startDrawing (p : Ppu) : Ppu :=
  { p with lx := 0, bgFifo := [], spriteFifo := [], bgFetch := .idle, spriteFetch := .idle }

/-! The fetchers (R360 to R363). -/

/-- Address of a tile's data by the LCDC addressing-mode bit (R352 bit 4). -/
def Ppu.tileBase (p : Ppu) (tile : Byte) : Nat :=
  if p.lcdc.getLsbD 4 then 0x8000 + 16 * tile.toNat
  else if tile.toNat < 128 then 0x9000 + 16 * tile.toNat else 0x8000 + 16 * tile.toNat

/-- A tile-map base, 0x9C00 when the select bit is set (R352 bits 3 and 6). -/
def mapBase (sel : Bool) : Nat := if sel then 0x9C00 else 0x9800

/-- The map column, map row and row within the tile that the background fetcher is at (R360). -/
def Ppu.mapCoords (p : Ppu) : Nat × Nat × Nat :=
  if p.bgFetch.window then (p.bgFetch.column, p.winLine / 8, p.winLine % 8)
  else ((p.scx.toNat / 8 + p.bgFetch.column) % 32, ((p.ly + p.scy.toNat) % 256) / 8, (p.ly + p.scy.toNat) % 8)

/-- The tile index the fetcher resolves in GET_TILE (R360). -/
def Ppu.tileIndex (mem : Memory) (p : Ppu) : Byte :=
  mem.read (mapBase (if p.bgFetch.window then p.lcdc.getLsbD 6 else p.lcdc.getLsbD 3)
    + 32 * p.mapCoords.2.1 + p.mapCoords.1)

/-- One bit-plane byte of the fetcher's tile row, plane 0 the low one (R360). -/
def Ppu.tileRow (mem : Memory) (p : Ppu) (plane : Nat) : Byte :=
  mem.read (p.tileBase p.bgFetch.tile + 2 * p.mapCoords.2.2 + plane)

/-- Colour index of pixel `j`, 0 leftmost: `high[7-j] ++ low[7-j]` (R360). -/
def pixelColour (low high : Byte) (j : Nat) : BitVec 2 :=
  BitVec.ofBool (high.getLsbD (7 - j)) ++ BitVec.ofBool (low.getLsbD (7 - j))

/-- The eight pixels of a tile row, leftmost first. -/
def tilePixels (low high : Byte) : List (BitVec 2) :=
  [pixelColour low high 0, pixelColour low high 1, pixelColour low high 2, pixelColour low high 3,
   pixelColour low high 4, pixelColour low high 5, pixelColour low high 6, pixelColour low high 7]

/-- The pixels PUSH appends: the very first background fetch of a scanline leaves out the first
`scroll-x mod 8` (R361). -/
def Ppu.pushPixels (p : Ppu) : List (BitVec 2) :=
  if p.bgFetch.column = 0 && !p.bgFetch.window then
    (tilePixels p.bgFetch.low p.bgFetch.high).drop (p.scx.toNat % 8)
  else tilePixels p.bgFetch.low p.bgFetch.high

/-- PUSH (R360); it waits while the FIFO holds more than eight pixels (PRESUMED, log 9). -/
def Ppu.tryPush (p : Ppu) : Ppu :=
  if p.bgFifo.length ≤ 8 then
    { p with
      bgFifo := p.bgFifo ++ p.pushPixels
      bgFetch := { p.bgFetch with stage := .getTile, dots := 0, column := p.bgFetch.column + 1 } }
  else { p with bgFetch := { p.bgFetch with stage := .push, dots := 0 } }

/-- One dot of the background/window fetcher (R360). R360 gives PUSH no dots: the model pushes within the SLEEP dot,
and a PUSH that must wait tries again in each later dot (DESIGN CHOICE, log 29). Nor does R360 say in which of its
two dots a stage reads the tile map or the tile data: the model reads in the second (DESIGN CHOICE, log 34). -/
def Ppu.bgFetchDot (mem : Memory) (p : Ppu) : Ppu :=
  match p.bgFetch.stage with
  | .getTile =>
    if p.bgFetch.dots = 0 then { p with bgFetch := { p.bgFetch with dots := 1 } }
    else { p with bgFetch := { p.bgFetch with stage := .dataLow, dots := 0, tile := p.tileIndex mem } }
  | .dataLow =>
    if p.bgFetch.dots = 0 then { p with bgFetch := { p.bgFetch with dots := 1 } }
    else { p with bgFetch := { p.bgFetch with stage := .dataHigh, dots := 0, low := p.tileRow mem 0 } }
  | .dataHigh =>
    if p.bgFetch.dots = 0 then { p with bgFetch := { p.bgFetch with dots := 1 } }
    else { p with bgFetch := { p.bgFetch with stage := .sleep, dots := 0, high := p.tileRow mem 1 } }
  | .sleep => p.tryPush
  | .push => p.tryPush

/-- The window's first fetch on a scanline (R363): window-enable set, the scanline at or past WY, the
output column at or past WX - 7. The background FIFO is flushed and the fetcher restarts on the
window tile map. R363 says only when the window begins: once triggered it is fetched to the end of the
scanline's DRAWING, whatever is then written to LCDC, WX or WY (DESIGN CHOICE, log 35). -/
def Ppu.windowTrigger (p : Ppu) : Ppu :=
  if p.lcdc.getLsbD 5 && !p.bgFetch.window && decide (p.wy.toNat ≤ p.ly) && decide (p.wx.toNat ≤ p.lx + 7) then
    { p with bgFifo := [], bgFetch := { BgFetcher.idle with window := true } }
  else p

/-- A sprite's X is within 8 pixels of the output column (R362), on either side (DEDUCED, log 32). -/
def Ppu.spriteNear (p : Ppu) (sp : Sprite) : Bool :=
  decide (sp.x.toNat ≤ p.lx + 8) && decide (p.lx ≤ sp.x.toNat + 8)

/-- The first sprite of the list that passes a test, and the list without it. -/
def takeSprite (test : Sprite → Bool) : List Sprite → Option (Sprite × List Sprite)
  | [] => none
  | sp :: rest =>
    if test sp then some (sp, rest)
    else
      match takeSprite test rest with
      | some (found, others) => some (found, sp :: others)
      | none => none

/-- A sprite fetch begins when sprites are enabled, none is in progress and an un-rendered sprite has its X
within 8 pixels of the output column; "among several such sprites the buffer order of rule R358 decides"
(R362). LCDC bit 1 is tested here alone (DESIGN CHOICE, log 33). -/
def Ppu.spriteTrigger (p : Ppu) : Ppu :=
  match p.spriteFetch.sprite, takeSprite p.spriteNear p.sprites with
  | none, some (sp, others) =>
    if p.lcdc.getLsbD 1 then
      { p with sprites := others, spriteFetch := { SpriteFetcher.idle with sprite := some sp } }
    else p
  | _, _ => p

/-- The row of a sprite on the scanline, flipped by flag bit 6 (R358). -/
def Ppu.spriteRow (p : Ppu) (sp : Sprite) : Nat :=
  if sp.flags.getLsbD 6 then p.spriteHeight - 1 - (p.ly + 16 - sp.y.toNat) else p.ly + 16 - sp.y.toNat

/-- The tile that holds the sprite's row: of a 16-line sprite the upper half is the even tile
(log 12). -/
def Ppu.spriteTile (p : Ppu) (sp : Sprite) : Byte :=
  if p.lcdc.getLsbD 2 then
    (if p.spriteRow sp < 8 then sp.tile &&& 0xFE#8 else sp.tile ||| 0x01#8)
  else sp.tile

/-- One bit-plane byte of the sprite's row (R360; log 12). -/
def Ppu.spriteData (mem : Memory) (p : Ppu) (sp : Sprite) (plane : Nat) : Byte :=
  mem.read (p.tileBase (p.spriteTile sp) + 2 * (p.spriteRow sp % 8) + plane)

/-- The eight pixels of a sprite row, flipped by flag bit 5 (R358, R360). -/
def spritePixels (sp : Sprite) (low high : Byte) : List SpritePixel :=
  (if sp.flags.getLsbD 5 then (tilePixels low high).reverse else tilePixels low high).map
    fun colour => { colour := colour, obp1 := sp.flags.getLsbD 4, behind := sp.flags.getLsbD 7 }

/-- Lay new sprite pixels under the ones of the FIFO: a pixel there that is not transparent was
fetched first and stays (R358, R362; log 11). -/
def mergeSprites : List SpritePixel → List SpritePixel → List SpritePixel
  | [], new => new
  | old, [] => old
  | o :: os, n :: ns => (if o.colour = 0#2 then n else o) :: mergeSprites os ns

/-- PUSH of the sprite fetcher: the pixels from the output column on go to the sprite FIFO. -/
def Ppu.spritePush (p : Ppu) (sp : Sprite) : Ppu :=
  { p with
    spriteFifo := mergeSprites p.spriteFifo
      ((spritePixels sp p.spriteFetch.low p.spriteFetch.high).drop (p.lx + 8 - sp.x.toNat))
    spriteFetch := .idle }

/-- One dot of the sprite fetcher (R360); PUSH takes no dot of its own (DESIGN CHOICE, log 29), and a stage of two
dots reads in the second (DESIGN CHOICE, log 34). -/
def Ppu.spriteFetchDot (mem : Memory) (p : Ppu) (sp : Sprite) : Ppu :=
  match p.spriteFetch.stage with
  | .getTile =>
    if p.spriteFetch.dots = 0 then { p with spriteFetch := { p.spriteFetch with dots := 1 } }
    else { p with spriteFetch := { p.spriteFetch with stage := .dataLow, dots := 0 } }
  | .dataLow =>
    if p.spriteFetch.dots = 0 then { p with spriteFetch := { p.spriteFetch with dots := 1 } }
    else { p with spriteFetch := { p.spriteFetch with stage := .dataHigh, dots := 0, low := p.spriteData mem sp 0 } }
  | .dataHigh =>
    if p.spriteFetch.dots = 0 then { p with spriteFetch := { p.spriteFetch with dots := 1 } }
    else { p with spriteFetch := { p.spriteFetch with stage := .sleep, dots := 0, high := p.spriteData mem sp 1 } }
  | .sleep => p.spritePush sp
  | .push => p.spritePush sp

/-! The compositor (R364). -/

/-- The shade a palette register maps a colour index to: `pal[2k+1:2k]`. -/
def paletteShade (pal : Byte) (k : BitVec 2) : Byte := (pal.extractLsb' (2 * k.toNat) 2).setWidth 8

/-- The background pixel as composited: index 0 when LCDC bit 0 is clear. -/
def Ppu.bgColour (p : Ppu) (bg : BitVec 2) : BitVec 2 := if p.lcdc.getLsbD 0 then bg else 0#2

/-- The shade of one output pixel (R364). With LCDC bit 0 clear the index 0 that stands for the background pixel is
used in the priority test as well, where R364 names it only beside "`b` through BGP": DESIGN CHOICE,
log 30. -/
def Ppu.mix (p : Ppu) (bg : BitVec 2) (sp : Option SpritePixel) : Byte :=
  match sp with
  | none => paletteShade p.bgp (p.bgColour bg)
  | some px =>
    if px.colour ≠ 0#2 ∧ (p.bgColour bg = 0#2 ∨ px.behind = false) then
      paletteShade (if px.obp1 then p.obp1 else p.obp0) px.colour
    else paletteShade p.bgp (p.bgColour bg)

/-- Pop one background pixel and, if present, one sprite pixel, and output the mix (R364). -/
def Ppu.compose (p : Ppu) : Ppu :=
  match p.bgFifo with
  | [] => p
  | bg :: rest =>
    { p with
      bgFifo := rest
      spriteFifo := p.spriteFifo.drop 1
      framebuffer := p.framebuffer.write (160 * p.ly + p.lx) (p.mix bg p.spriteFifo.head?)
      lx := p.lx + 1 }

/-- The work of one DRAWING dot once the window and sprite triggers are seen: one fetcher runs, and
the compositor waits while a sprite fetch is in progress (R360, R362, R364). A sprite fetch in progress when LCDC
bit 1 is cleared runs to its end and pushes its pixels: DESIGN CHOICE, log 33. -/
def Ppu.drawWork (mem : Memory) (p : Ppu) : Ppu :=
  match p.spriteFetch.sprite with
  | some sp => p.spriteFetchDot mem sp
  | none => p.compose.bgFetchDot mem

/-- `RenderDot()` (R354). A stalled dot does nothing: when `DRAWING_LEN` is not given, which dots
those are is the free value `Config.drawStall` (log 7). -/
def Ppu.renderDot (mem : Memory) (len : Option Nat) (p : Ppu) : Ppu :=
  if 160 ≤ p.lx then { p with drawCtr := p.drawCtr + 1 }
  else if len.isNone && Config.drawStall p.drawCtr then { p with drawCtr := p.drawCtr + 1 }
  else { p.windowTrigger.spriteTrigger.drawWork mem with drawCtr := p.drawCtr + 1 }

/-- Whether DRAWING ends at this dot (R354): at the hard cap of 289 dots, and before it on reaching
160 pixels or, where the parameter `DRAWING_LEN` is given, after that many dots. -/
def Ppu.drawingDone (len : Option Nat) (p : Ppu) : Bool :=
  match len with
  | none => decide (p.lx = 160) || decide (p.dot = 80 + 289)
  | some n => decide (80 + n ≤ p.dot) || decide (p.dot = 80 + 289)

/-- The end of DRAWING: the window-line counter counts the scanline if the window was triggered on it
(R363; log 10), and HBLANK is entered. -/
def Ppu.endDrawing (p : Ppu) : Ppu × BitVec 5 :=
  Ppu.enterMode { p with winLine := if p.bgFetch.window then p.winLine + 1 else p.winLine } .hblank

/-- One dot of the mode machine of an enabled display (R354). -/
def Ppu.dotStep (mem : Memory) (len : Option Nat) (p : Ppu) : Ppu × BitVec 5 :=
  match p.mode with
  | .oamScan =>
    if p.dot = 80 then (p.buildSprites mem).startDrawing.enterMode .drawing else (p, 0#5)
  | .drawing =>
    if (p.renderDot mem len).drawingDone len then (p.renderDot mem len).endDrawing
    else (p.renderDot mem len, 0#5)
  | .hblank =>
    if p.dot = 456 then
      Ppu.startLine { p with dot := 0, ly := p.ly + 1 } (if p.ly + 1 = 144 then .vblank else .oamScan)
    else (p, 0#5)
  | .vblank =>
    if p.dot = 456 then
      if p.ly + 1 = 154 then Ppu.startLine { p with dot := 0, ly := 0, winLine := 0 } .oamScan
      else Ppu.coincidence { p with dot := 0, ly := p.ly + 1 }
    else (p, 0#5)

/-- `PpuTick()` (R354); a disabled display is frozen (R359). -/
def Ppu.tick (mem : Memory) (len : Option Nat) (p : Ppu) : Ppu × BitVec 5 :=
  if p.lcdc.getLsbD 7 then Ppu.dotStep mem len { p with dot := p.dot + 1 } else (p, 0#5)

/-- `c` ticks (R370); `mask` gathers the requests. -/
def Ppu.advance (mem : Memory) (len : Option Nat) : Nat → Ppu → BitVec 5 → Ppu × BitVec 5
  | 0, p, mask => (p, mask)
  | n + 1, p, mask =>
    match p.tick mem len with
    | (p', m) => Ppu.advance mem len n p' (mask ||| m)

/-! The registers (R352). -/

/-- A write to LCDC, with display disable and enable (R359). -/
def Ppu.writeLcdc (p : Ppu) (v : Byte) : Ppu × BitVec 5 :=
  if p.lcdc.getLsbD 7 && !v.getLsbD 7 then
    ({ p with lcdc := v, ly := 0, dot := 0, mode := .hblank, stat := statWithMode p.stat 0#2 }, 0#5)
  else if !p.lcdc.getLsbD 7 && v.getLsbD 7 then
    Ppu.startLine { p with lcdc := v, ly := 0, dot := 0, winLine := 0 } .oamScan
  else ({ p with lcdc := v }, 0#5)

/-- The shade at a column and line of the framebuffer (R371 `get_framebuffer()`; log 31). -/
def Ppu.pixel (p : Ppu) (column line : Nat) : Byte := p.framebuffer.read (160 * line + column)

end Sys2Proof.Machine
end

