-- ==== Sys2Proof/Machine/Ops.lean ====
section
/-! DEFINITION. The operations over memory and registers that every instruction goes through: the
dispatcher's `BusRead` and `BusWrite` with the address map, the mode gating and the DMA
(spec/20_memory.md), the memory and stack primitives (spec/00_scope.md R10, R11), the interrupt
dispatch and the return from it (spec/60_exceptions.md R302, R336), the halt exit, the opcode fetch,
the EI promotion and the device advance (R303, R304, R306, R370). -/

namespace Sys2Proof.Machine

/-! The cartridge (R67, R69, R72). -/

/-- `CART.read(a)`. -/
def State.cartRead (s : State) (a : Word) : Byte :=
  match s.cart with
  | .romOnly => s.mem.read a.toNat
  | .external priv => Config.cartRead priv a

/-- `CART.write(a, v)`; `rom_only` ignores it. -/
def State.cartWrite (s : State) (a : Word) (v : Byte) : State :=
  match s.cart with
  | .romOnly => s
  | .external priv => { s with cart := .external (Config.cartWrite priv a v) }

/-- `CART.read_sram(a)`; `rom_only` answers 0xFF. -/
def State.cartReadSram (s : State) (a : Word) : Byte :=
  match s.cart with
  | .romOnly => 0xFF#8
  | .external priv => Config.cartReadSram priv a

/-- `CART.write_sram(a, v)`; `rom_only` ignores it. -/
def State.cartWriteSram (s : State) (a : Word) (v : Byte) : State :=
  match s.cart with
  | .romOnly => s
  | .external priv => { s with cart := .external (Config.cartWriteSram priv a v) }

/-! Storage, the interrupt bytes, and gating. -/

/-- Store a byte in the memory list. -/
def State.store (s : State) (key : Nat) (v : Byte) : State := { s with mem := s.mem.write key v }

/-- Where an echo address 0xE000..0xFDFF is stored (R71). -/
def echoKey (mode : EchoHigh) (a : Nat) : Nat :=
  match mode with
  | .wrap => 0xC000 + (a - 0xE000) % 4096
  | .bank1 => 0xC000 + (a - 0xE000)

/-- What a bus read of 0xFFFF gives (R35). -/
def State.ieRead (s : State) : Byte :=
  match s.params.ieUpper with
  | .stored => s.ie
  | .ones => s.ie ||| 0xE0#8
  | .zeros => s.ie &&& 0x1F#8

/-- Set bits of `requested`, as a device does (R34). -/
def State.request (s : State) (mask : BitVec 5) : State := { s with requested := s.requested ||| mask }

/-- The Timer's bit of `requested`, when it asks for it (R333). -/
def timerMask (irq : Bool) : BitVec 5 := if irq then 0b00100#5 else 0#5

/-- VRAM is refused in DRAWING (R82). -/
def State.vramGated (s : State) : Bool := s.ppu.mode == .drawing

/-- OAM is refused in OAM_SCAN and DRAWING (R83). -/
def State.oamGated (s : State) : Bool := s.ppu.mode == .oamScan || s.ppu.mode == .drawing

/-! Reading (R64, R66 to R81). -/

/-- The I/O addresses that are plain storage: the serial registers, the 23 audio and the 16 wave
registers (R76, R78). -/
def isStub (a : Nat) : Bool :=
  decide (a = 0xFF01) || decide (a = 0xFF02) || (decide (0xFF10 ≤ a) && decide (a ≤ 0xFF26))
    || (decide (0xFF30 ≤ a) && decide (a ≤ 0xFF3F))

/-- A read of an I/O address 0xFF00..0xFF7F (R76 to R79, R344, R345, R349, R350, R352). -/
def State.ioRead (s : State) (a : Nat) : Byte :=
  if isStub a then s.mem.read a
  else if a = 0xFF00 then s.params.joypRead
  else if a = 0xFF04 then hiByte s.timer.div16
  else if a = 0xFF05 then s.timer.tima
  else if a = 0xFF06 then s.timer.tma
  else if a = 0xFF07 then 0b11111#5 ++ s.timer.tac
  else if a = 0xFF0F then 0b111#3 ++ s.requested
  else if a = 0xFF40 then s.ppu.lcdc
  else if a = 0xFF41 then s.ppu.stat
  else if a = 0xFF42 then s.ppu.scy
  else if a = 0xFF43 then s.ppu.scx
  else if a = 0xFF44 then BitVec.ofNat 8 s.ppu.ly
  else if a = 0xFF45 then s.ppu.lyc
  else if a = 0xFF46 then Config.freeByte s.freeCtr
  else if a = 0xFF47 then s.ppu.bgp
  else if a = 0xFF48 then s.ppu.obp0
  else if a = 0xFF49 then s.ppu.obp1
  else if a = 0xFF4A then s.ppu.wy
  else if a = 0xFF4B then s.ppu.wx
  else 0xFF#8

/-- A read of 0x0000..0x7FFF: the boot ROM over the cartridge's first 256 bytes while it is enabled
(R67, R73). -/
def State.romRead (s : State) (a : Word) : Byte :=
  if a.toNat < 0x0100 ∧ s.bootRomEnabled = true then
    match s.params.bootRom with
    | some image => image.getD a.toNat 0xFF#8
    | none => s.cartRead a
  else s.cartRead a

/-- `RegionRead(a, gated)` (R64, R66). -/
def State.regionRead (s : State) (a : Word) (gated : Bool) : Byte :=
  if a.toNat < 0x8000 then s.romRead a
  else if a.toNat < 0xA000 then (if gated && s.vramGated then 0xFF#8 else s.mem.read a.toNat)
  else if a.toNat < 0xC000 then s.cartReadSram a
  else if a.toNat < 0xE000 then s.mem.read a.toNat
  else if a.toNat < 0xFE00 then s.mem.read (echoKey s.params.echoHigh a.toNat)
  else if a.toNat < 0xFEA0 then (if gated && s.oamGated then 0xFF#8 else s.mem.read a.toNat)
  else if a.toNat < 0xFF00 then 0xFF#8
  else if a.toNat < 0xFF80 then s.ioRead a.toNat
  else if a.toNat < 0xFFFF then s.mem.read a.toNat
  else s.ieRead

/-- High RAM, the only region that answers during a DMA lockout (R64, R80). -/
def isHram (a : Word) : Bool := decide (0xFF80 ≤ a.toNat) && decide (a.toNat ≤ 0xFFFE)

/-- The DMA lockout holds at an address (R64, R65, R84). -/
def State.locked (s : State) (a : Word) : Bool := decide (0 < s.dmaRemaining) && !isHram a

/-- `BusRead(a)` (R64). -/
def State.busRead (s : State) (a : Word) : Byte :=
  if s.locked a then 0xFF#8 else s.regionRead a true

/-! Writing (R65, R66 to R81, R85). -/

/-- The state whose free value is `k` later; reads are otherwise unchanged. -/
def State.bumpFree (s : State) (k : Nat) : State := { s with freeCtr := s.freeCtr + k }

/-- The copy of an OAM DMA: `n` bytes from index `i` on, read ungated, OAM written directly (R85). -/
def State.dmaCopy : Nat → Nat → Byte → State → State
  | 0, _, _, s => s
  | n + 1, i, v, s =>
    State.dmaCopy n (i + 1) v
      (s.store (0xFE00 + i) ((s.bumpFree 1).regionRead (wordOf v (BitVec.ofNat 8 i)) false))

/-- A write to the DMA trigger 0xFF46 (R85). -/
def State.dmaTrigger (s : State) (v : Byte) : State :=
  { s.dmaCopy 160 0 v with dmaRemaining := 640 }

/-- The effect of a timer operation. -/
def State.withTimer (s : State) (r : Timer × Bool) : State :=
  { s with timer := r.1, requested := s.requested ||| timerMask r.2 }

/-- The effect of a video-controller operation. -/
def State.withPpu (s : State) (r : Ppu × BitVec 5) : State :=
  { s with ppu := r.1, requested := s.requested ||| r.2 }

/-- A write to an I/O address 0xFF00..0xFF7F (R73, R76 to R79, R85, R344, R345, R349, R350, R352). -/
def State.ioWrite (s : State) (a : Nat) (v : Byte) : State :=
  if isStub a || decide (a = 0xFF00) then s.store a v
  else if a = 0xFF04 then s.withTimer s.timer.writeDiv
  else if a = 0xFF05 then { s with timer := s.timer.writeTima v }
  else if a = 0xFF06 then { s with timer := s.timer.writeTma v }
  else if a = 0xFF07 then s.withTimer (s.timer.writeTac v)
  else if a = 0xFF0F then { s with requested := v.extractLsb' 0 5 }
  else if a = 0xFF40 then s.withPpu (s.ppu.writeLcdc v)
  else if a = 0xFF41 then { s with ppu := { s.ppu with stat := v } }
  else if a = 0xFF42 then { s with ppu := { s.ppu with scy := v } }
  else if a = 0xFF43 then { s with ppu := { s.ppu with scx := v } }
  else if a = 0xFF45 then { s with ppu := { s.ppu with lyc := v } }
  else if a = 0xFF46 then s.dmaTrigger v
  else if a = 0xFF47 then { s with ppu := { s.ppu with bgp := v } }
  else if a = 0xFF48 then { s with ppu := { s.ppu with obp0 := v } }
  else if a = 0xFF49 then { s with ppu := { s.ppu with obp1 := v } }
  else if a = 0xFF4A then { s with ppu := { s.ppu with wy := v } }
  else if a = 0xFF4B then { s with ppu := { s.ppu with wx := v } }
  else if a = 0xFF50 then (if v = 0#8 then s else { s with bootRomEnabled := false })
  else s

/-- `RegionWrite(a, v, gated = true)` (R65, R66). -/
def State.regionWrite (s : State) (a : Word) (v : Byte) : State :=
  if a.toNat < 0x8000 then s.cartWrite a v
  else if a.toNat < 0xA000 then (if s.vramGated then s else s.store a.toNat v)
  else if a.toNat < 0xC000 then s.cartWriteSram a v
  else if a.toNat < 0xE000 then s.store a.toNat v
  else if a.toNat < 0xFE00 then s.store (echoKey s.params.echoHigh a.toNat) v
  else if a.toNat < 0xFEA0 then (if s.oamGated then s else s.store a.toNat v)
  else if a.toNat < 0xFF00 then s
  else if a.toNat < 0xFF80 then s.ioWrite a.toNat v
  else if a.toNat < 0xFFFF then s.store a.toNat v
  else { s with ie := v }

/-- `BusWrite(a, v)` (R65). -/
def State.busWrite (s : State) (a : Word) (v : Byte) : State :=
  if s.locked a then s else s.regionWrite a v

/-- `MemWrite(a, 2, v)`: low byte first, then the high byte at the next address (R10). -/
def State.memWrite16 (s : State) (a : Word) (v : Word) : State :=
  (s.busWrite a (loByte v)).busWrite (a + 1#16) (hiByte v)

/-! The stack (R11). -/

/-- One half of a push: SP down by one, then the byte at SP. -/
def State.push8 (s : State) (v : Byte) : State :=
  State.busWrite { s with sp := s.sp - 1#16 } (s.sp - 1#16) v

/-- `Push16(v)`: high byte first. -/
def State.push16 (s : State) (v : Word) : State := (s.push8 (hiByte v)).push8 (loByte v)

/-- The word `Pop16()` reads: low byte at SP, high byte at SP + 1. -/
def State.stackTop (s : State) : Word := wordOf (s.busRead (s.sp + 1#16)) (s.busRead s.sp)

/-- `Pop16()` but for its result: SP up by two. -/
def State.dropTop (s : State) : State := { s with sp := s.sp + 2#16 }

/-! Interrupts (R36, R302, R336). -/

/-- `allowed = requested[4:0] & enabled[4:0]` (R36). -/
def State.allowed (s : State) : BitVec 5 := s.requested &&& s.ie.extractLsb' 0 5

/-- The least source with its bit set (R302, R334); 4 when no lower bit is. -/
def leastSource (a : BitVec 5) : Nat :=
  if a.getLsbD 0 then 0
  else if a.getLsbD 1 then 1
  else if a.getLsbD 2 then 2
  else if a.getLsbD 3 then 3
  else 4

/-- The vector of a source: 0x0040 + 8 * i (R302). -/
def vectorOf (i : Nat) : Word := BitVec.ofNat 16 (0x0040 + 8 * i)

/-- `requested[i] <- 0`. -/
def State.clearRequest (s : State) (i : Nat) : State :=
  { s with requested := s.requested &&& ~~~(BitVec.twoPow 5 i) }

/-- `Dispatch(a)` with `i` the source taken: master enable, pending enable and halt cleared, PC
pushed, the request cleared after the push, PC at the vector (R302, R335). -/
def State.dispatchTo (s : State) (i : Nat) : State :=
  { ((State.push16 { s with ime := false, imePending := false, halted := false } s.pc).clearRequest i) with
    pc := vectorOf i }

/-- Interrupt dispatch from the sources allowed at the start of the step (R302). -/
def State.dispatch (s : State) : State := s.dispatchTo (leastSource s.allowed)

/-- `PC <- Pop16()` (R218). -/
def State.returnPc (s : State) : State := { s.dropTop with pc := s.stackTop }

/-- The return from an interrupt: `PC <- Pop16(); IME <- 1` (R219, R336). -/
def State.returnFromInterrupt (s : State) : State := { s.returnPc with ime := true }

/-! The phases of a step (R300). -/

/-- The halt exit of phase 2, for a halted CPU with an allowed source and IME = 0 (R300, R303). -/
def State.haltExit (s : State) : State :=
  if s.halted then
    { s with halted := false, haltBug := s.haltBug || (s.params.haltBugMode == .whileHalted) }
  else s

/-- The address of the byte after the opcode: PC does not advance past the opcode when the HALT bug
is armed (R304). -/
def State.operandPc (s : State) : Word := if s.haltBug then s.pc else s.pc + 1#16

/-- The three bytes an instruction can take, as the fetches of R11 and R304 read them; each read has
a free value of its own. Reading a byte the instruction does not have changes nothing (R94). -/
def State.fetchBytes (s : State) : Byte × Byte × Byte :=
  (s.busRead s.pc, (s.bumpFree 1).busRead s.operandPc, (s.bumpFree 2).busRead (s.operandPc + 1#16))

/-- The instruction at PC. -/
def State.fetched (s : State) : Instr := decode3 s.fetchBytes.1 s.fetchBytes.2.1 s.fetchBytes.2.2

/-- The state after `FetchOpcode()` and the `Fetch8()`s of the instruction: PC past its last byte,
the HALT bug used up (R28, R304). -/
def State.afterFetch (s : State) : State :=
  { s with
    pc := s.operandPc + BitVec.ofNat 16 (lengthOf s.fetchBytes.1 - 1)
    haltBug := false
    freeCtr := s.freeCtr + 3 }

/-- EI promotion at the end of a step that began with `pend0` (R300, R306). -/
def State.promote (s : State) (pend0 : Bool) : State :=
  if pend0 && s.imePending then { s with ime := true, imePending := false } else s

/-- The driver's frame count after `c` more T-cycles (R370). -/
def frameAfter (elapsed c : Nat) : Nat :=
  if elapsed + c < 70224 then elapsed + c else elapsed + c - 70224

/-- The devices advance by the step's T-cycles: video controller, timer, DMA countdown, and the
driver's count (R86, R348, R354, R370). -/
def State.advance (s : State) (c : Nat) : State :=
  match s.ppu.advance s.mem s.params.drawingLen c 0#5, s.timer.advance c false with
  | (p, m), (t, irq) =>
    { s with
      ppu := p
      timer := t
      requested := s.requested ||| m ||| timerMask irq
      dmaRemaining := s.dmaRemaining - c
      frameElapsed := frameAfter s.frameElapsed c }

/-- What follows the execution of an instruction that took `m` M-cycles and began with `pend0`: EI
promotion and the device advance of `4 * m` T-cycles (R300, R370); the next step's free values are
new ones. -/
def State.finish (s : State) (pend0 : Bool) (m : Nat) : State :=
  ((s.promote pend0).advance (4 * m)).bumpFree 2

/-! The host (R371) and the loading of a program. -/

/-- The host's `reset()`: everything at its reset value but the parameters, the ROM image and the
cartridge (R371, R400); the counters of the free values go on. -/
def State.hostReset (preset : ResetPreset) (s : State) : State :=
  let r := State.resetWith preset s.params s.cart (s.mem.filter fun cell => decide (cell.1 < 0x8000))
  { r with freeCtr := s.freeCtr, ppu := { r.ppu with drawCtr := s.ppu.drawCtr } }

/-- Put a byte into the storage that answers a read of an address: the boot ROM image or the ROM
image (of `rom_only`), VRAM, WRAM, OAM, HRAM. An address without storage of its own is left. -/
def State.pokeByte (s : State) (a : Word) (v : Byte) : State :=
  if a.toNat < 0x0100 ∧ s.bootRomEnabled = true ∧ s.params.bootRom.isSome then
    { s with params := { s.params with bootRom := s.params.bootRom.map fun image => image.set a.toNat v } }
  else if 0xA000 ≤ a.toNat ∧ a.toNat < 0xC000 then s
  else if a.toNat < 0xE000 then s.store a.toNat v
  else if a.toNat < 0xFE00 then s.store (echoKey s.params.echoHigh a.toNat) v
  else if a.toNat < 0xFEA0 then s.store a.toNat v
  else if 0xFF80 ≤ a.toNat ∧ a.toNat < 0xFFFF then s.store a.toNat v
  else s

/-- Put three bytes where the next instruction is fetched. -/
def State.pokeFetch (s : State) (b0 b1 b2 : Byte) : State :=
  ((s.pokeByte s.pc b0).pokeByte (s.pc + 1#16) b1).pokeByte (s.pc + 2#16) b2

end Sys2Proof.Machine
end

