-- ==== Sys2Proof/Machine/Operands.lean ====
section
/-! DEFINITION. The operand forms (spec/00_scope.md R9, spec/10_state.md R21, R25): the 8-bit operands of
the table `r`, the pairs of the tables `rp` and `rp2`, and the operations over them that the
instructions share. -/

namespace Sys2Proof.Machine

/-- What the meaning of an instruction answers. -/
abbrev Out := Host.Outcome State Fault Refusal

/-! The pair views (R21). -/

def State.bc (s : State) : Word := wordOf s.b s.c
def State.de (s : State) : Word := wordOf s.d s.e
def State.hl (s : State) : Word := wordOf s.h s.l
def State.af (s : State) : Word := wordOf s.a s.f

def State.setBC (s : State) (v : Word) : State := { s with b := hiByte v, c := loByte v }
def State.setDE (s : State) (v : Word) : State := { s with d := hiByte v, e := loByte v }
def State.setHL (s : State) (v : Word) : State := { s with h := hiByte v, l := loByte v }

/-- A write through AF masks the low nibble of F (R25). -/
def State.setAF (s : State) (v : Word) : State := { s with a := hiByte v, f := loByte v &&& 0xF0#8 }

/-- `rp[p]` (R9, R105). -/
def State.rp (s : State) : Rp → Word
  | .bc => s.bc
  | .de => s.de
  | .hl => s.hl
  | .sp => s.sp

/-- `rp[p] <- v` (R9, R105). -/
def State.setRp (s : State) (p : Rp) (v : Word) : State :=
  match p with
  | .bc => s.setBC v
  | .de => s.setDE v
  | .hl => s.setHL v
  | .sp => { s with sp := v }

/-- `rp2[p]` (R9, R105). -/
def State.rp2 (s : State) : Rp2 → Word
  | .bc => s.bc
  | .de => s.de
  | .hl => s.hl
  | .af => s.af

/-- `rp2[p] <- v` (R9, R25, R105). -/
def State.setRp2 (s : State) (p : Rp2) (v : Word) : State :=
  match p with
  | .bc => s.setBC v
  | .de => s.setDE v
  | .hl => s.setHL v
  | .af => s.setAF v

/-- `Op8Read(i)` (R9). -/
def State.op8 (s : State) : Opnd → Byte
  | .b => s.b
  | .c => s.c
  | .d => s.d
  | .e => s.e
  | .h => s.h
  | .l => s.l
  | .indHL => s.busRead s.hl
  | .a => s.a

/-- `Op8Write(i, v)` (R9). -/
def State.setOp8 (s : State) (o : Opnd) (v : Byte) : State :=
  match o with
  | .b => { s with b := v }
  | .c => { s with c := v }
  | .d => { s with d := v }
  | .e => { s with e := v }
  | .h => { s with h := v }
  | .l => { s with l := v }
  | .indHL => s.busWrite s.hl v
  | .a => { s with a := v }

/-- The flags of a result. -/
def State.setResultFlags (s : State) (r : AluResult) : State := s.setFlags r.z r.n r.h r.c

/-- Write a result to an operand, and its flags. -/
def State.putResult (s : State) (o : Opnd) (r : AluResult) : State := (s.setOp8 o r.res).setResultFlags r

/-! Operations that several instructions share. -/

/-- `LD r,r'`, `LD r,(HL)`, `LD (HL),r` (R171, R172, R174). -/
def State.ld8 (s : State) (dst src : Opnd) : State := s.setOp8 dst (s.op8 src)

/-- The ALU operations on A and a byte; CP does not write A (R184 to R199, R235 to R242). -/
def State.alu (s : State) (op : AluOp) (v : Byte) : State :=
  match op with
  | .cp => s.setResultFlags (aluFn op s.a v s.fC)
  | _ => s.putResult .a (aluFn op s.a v s.fC)

/-- `INC r`, `INC (HL)` (R148, R149). -/
def State.incOp8 (s : State) (o : Opnd) : State := s.putResult o (inc8 (s.op8 o) s.fC)

/-- `DEC r`, `DEC (HL)` (R150, R151). -/
def State.decOp8 (s : State) (o : Opnd) : State := s.putResult o (dec8 (s.op8 o) s.fC)

/-- `ADD HL,rr` (R137). -/
def State.addHL (s : State) (p : Rp) : State :=
  match add16 s.hl (s.rp p) with
  | (r, h, c) => (s.setHL r).setFlags s.fZ false h c

/-- The flags of `ADD SP,e` and `LD HL,SP+e` (R213, R215). -/
def State.setSPFlags (s : State) (r : Word × Bool × Bool) : State := s.setFlags false false r.2.1 r.2.2

/-- The rotates of the accumulator (R154 to R157). -/
def State.rotA (s : State) (op : RotOp) : State := s.putResult .a (rotAResult op s.a s.fC)

/-- `JR e`: relative to the address after the instruction (R133). -/
def State.jumpRel (s : State) (e : Byte) : State := { s with pc := s.pc + sext16 e }

/-- `PC <- nn`. -/
def State.jump (s : State) (nn : Word) : State := { s with pc := nn }

/-- `Push16(PC); PC <- nn` (R234, R250). -/
def State.call (s : State) (nn : Word) : State := (s.push16 s.pc).jump nn

/-- `POP` (R216, R217). -/
def State.pop (s : State) (p : Rp2) : State := s.dropTop.setRp2 p s.stackTop

/-- The address `0xFF00 + n` (R109). -/
def ioAddr (n : Byte) : Word := 0xFF00#16 + n.setWidth 16

/-- `HALT` (R173, R303). -/
def State.halt (s : State) : State :=
  if s.params.haltBugMode = .atHaltOnly ∧ s.ime = false ∧ s.allowed ≠ 0#5 then { s with haltBug := true }
  else { s with halted := true }

/-- `raise Locked(opcode)`: `cpu_mode <- locked` (R243, R331). -/
def State.lock (s : State) (opcode : Byte) : State := { s with cpuMode := .locked opcode }

/-- A rotate or shift of the CB page (R262 to R277). -/
def State.rot (s : State) (op : RotOp) (o : Opnd) : State := s.putResult o (rotResult op (s.op8 o) s.fC)

/-- `BIT b,x` (R278, R279). -/
def State.bitTest (s : State) (n : Idx) (o : Opnd) : State :=
  s.setFlags (!(s.op8 o).getLsbD n.val) false true s.fC

/-- The byte `1 << b`. -/
def bitMask (n : Idx) : Byte := BitVec.twoPow 8 n.val

/-- `RES b,x` (R280, R281). -/
def State.bitReset (s : State) (n : Idx) (o : Opnd) : State := s.setOp8 o (s.op8 o &&& ~~~(bitMask n))

/-- `SET b,x` (R282, R283). -/
def State.bitSet (s : State) (n : Idx) (o : Opnd) : State := s.setOp8 o (s.op8 o ||| bitMask n)

/-- The CB page by the fields of the second opcode (R228, R260). -/
def State.cbPage (s : State) (op2 : Byte) : State :=
  match fieldX op2 with
  | 0 => s.rot (rotOf (fieldY op2)) (opndOf (fieldZ op2))
  | 1 => s.bitTest (fieldY op2) (opndOf (fieldZ op2))
  | 2 => s.bitReset (fieldY op2) (opndOf (fieldZ op2))
  | _ => s.bitSet (fieldY op2) (opndOf (fieldZ op2))

end Sys2Proof.Machine
end

