-- ==== Sys2Proof/Machine/Cycles.lean ====
section
/-! DEFINITION. The M-cycles of an instruction (spec/60_exceptions.md R307), looked up in the configured
cycle table of `State.params` (spec/70_reset_and_hazards.md R415, R416). -/

namespace Sys2Proof.Machine

/-- The condition that each of the sixteen conditional opcodes tests: `JR cc`, `RET cc`, `JP cc`,
`CALL cc` (R106, R307). -/
def branchCond (op : Byte) : Option Cond :=
  match fieldX op, fieldZ op, fieldY op with
  | 0, .i0, .i4 | 0, .i0, .i5 | 0, .i0, .i6 | 0, .i0, .i7
  | 3, .i0, .i0 | 3, .i0, .i1 | 3, .i0, .i2 | 3, .i0, .i3
  | 3, .i2, .i0 | 3, .i2, .i1 | 3, .i2, .i2 | 3, .i2, .i3
  | 3, .i4, .i0 | 3, .i4, .i1 | 3, .i4, .i2 | 3, .i4, .i3 => some (condOf (fieldY op))
  | _, _, _ => none

/-- The count of a first-page instruction: "the branch-taken cycle count if a conditional branch was
taken, else the base cycle count" (R307). -/
def opCycles (op : Byte) (s : State) : Nat :=
  match branchCond op with
  | some cc => if s.cond cc then s.params.cycles.takenCount op else s.params.cycles.baseCount op
  | none => s.params.cycles.baseCount op

/-- The M-cycles an instruction takes when it is executed in a state; a CB-page instruction's count
includes the prefix (R307). -/
def mCycles (i : Instr) (s : State) : Nat :=
  match encode i with
  | [] => 0
  | b0 :: rest => if b0 = 0xCB#8 then s.params.cycles.cbCount (rest.getD 0 0#8) else opCycles b0 s

end Sys2Proof.Machine
end

