-- ==== Sys2Proof/Machine/Block0.lean ====
section
/-! DEFINITION. The meanings of block 0, opcodes 0x00 to 0x3F (spec/40_block0.md). PC is past the whole instruction when a meaning
begins, and its immediates are read (R13, R28). -/

namespace Sys2Proof.Machine

/-- `NOP` (R130). -/
def execNop (s : State) : Out := .next s

/-- `LD BC,nn` (R135). -/
def execLd_BC_nn (nn : Word) (s : State) : Out := .next (s.setRp .bc nn)

/-- `LD (BC),A` (R138). -/
def execLd_iBC_A (s : State) : Out := .next (s.busWrite s.bc s.a)

/-- `INC BC` (R146). -/
def execInc_BC (s : State) : Out := .next (s.setRp .bc (s.rp .bc + 1#16))

/-- `INC B` (R148). -/
def execInc_B (s : State) : Out := .next (s.incOp8 .b)

/-- `DEC B` (R150). -/
def execDec_B (s : State) : Out := .next (s.decOp8 .b)

/-- `LD B,n` (R152). -/
def execLd_B_n (n : Byte) (s : State) : Out := .next (s.setOp8 .b n)

/-- `RLCA` (R154). -/
def execRlca (s : State) : Out := .next (s.rotA .rlc)

/-- `LD (nn),SP` (R131). -/
def execLd_inn_SP (nn : Word) (s : State) : Out := .next (s.memWrite16 nn s.sp)

/-- `ADD HL,BC` (R137). -/
def execAdd_HL_BC (s : State) : Out := .next (s.addHL .bc)

/-- `LD A,(BC)` (R142). -/
def execLd_A_iBC (s : State) : Out := .next { s with a := s.busRead s.bc }

/-- `DEC BC` (R147). -/
def execDec_BC (s : State) : Out := .next (s.setRp .bc (s.rp .bc - 1#16))

/-- `INC C` (R148). -/
def execInc_C (s : State) : Out := .next (s.incOp8 .c)

/-- `DEC C` (R150). -/
def execDec_C (s : State) : Out := .next (s.decOp8 .c)

/-- `LD C,n` (R152). -/
def execLd_C_n (n : Byte) (s : State) : Out := .next (s.setOp8 .c n)

/-- `RRCA` (R155). -/
def execRrca (s : State) : Out := .next (s.rotA .rrc)

/-- `STOP` (R132). -/
def execStop (_ : Byte) (s : State) : Out := .next { s with cpuMode := .stopped }

/-- `LD DE,nn` (R135). -/
def execLd_DE_nn (nn : Word) (s : State) : Out := .next (s.setRp .de nn)

/-- `LD (DE),A` (R139). -/
def execLd_iDE_A (s : State) : Out := .next (s.busWrite s.de s.a)

/-- `INC DE` (R146). -/
def execInc_DE (s : State) : Out := .next (s.setRp .de (s.rp .de + 1#16))

/-- `INC D` (R148). -/
def execInc_D (s : State) : Out := .next (s.incOp8 .d)

/-- `DEC D` (R150). -/
def execDec_D (s : State) : Out := .next (s.decOp8 .d)

/-- `LD D,n` (R152). -/
def execLd_D_n (n : Byte) (s : State) : Out := .next (s.setOp8 .d n)

/-- `RLA` (R156). -/
def execRla (s : State) : Out := .next (s.rotA .rl)

/-- `JR e` (R133). -/
def execJr_e (e : Byte) (s : State) : Out := .next (s.jumpRel e)

/-- `ADD HL,DE` (R137). -/
def execAdd_HL_DE (s : State) : Out := .next (s.addHL .de)

/-- `LD A,(DE)` (R143). -/
def execLd_A_iDE (s : State) : Out := .next { s with a := s.busRead s.de }

/-- `DEC DE` (R147). -/
def execDec_DE (s : State) : Out := .next (s.setRp .de (s.rp .de - 1#16))

/-- `INC E` (R148). -/
def execInc_E (s : State) : Out := .next (s.incOp8 .e)

/-- `DEC E` (R150). -/
def execDec_E (s : State) : Out := .next (s.decOp8 .e)

/-- `LD E,n` (R152). -/
def execLd_E_n (n : Byte) (s : State) : Out := .next (s.setOp8 .e n)

/-- `RRA` (R157). -/
def execRra (s : State) : Out := .next (s.rotA .rr)

/-- `JR NZ,e` (R134). -/
def execJr_NZ_e (e : Byte) (s : State) : Out := .next (if s.cond .nz then s.jumpRel e else s)

/-- `LD HL,nn` (R135). -/
def execLd_HL_nn (nn : Word) (s : State) : Out := .next (s.setRp .hl nn)

/-- `LD (HL+),A` (R140). -/
def execLd_iHLp_A (s : State) : Out := .next ((s.busWrite s.hl s.a).setHL (s.hl + 1#16))

/-- `INC HL` (R146). -/
def execInc_HL (s : State) : Out := .next (s.setRp .hl (s.rp .hl + 1#16))

/-- `INC H` (R148). -/
def execInc_H (s : State) : Out := .next (s.incOp8 .h)

/-- `DEC H` (R150). -/
def execDec_H (s : State) : Out := .next (s.decOp8 .h)

/-- `LD H,n` (R152). -/
def execLd_H_n (n : Byte) (s : State) : Out := .next (s.setOp8 .h n)

/-- `DAA` (R158). -/
def execDaa (s : State) : Out := .next (s.putResult .a (daaResult s.a s.fN s.fH s.fC))

/-- `JR Z,e` (R134). -/
def execJr_Z_e (e : Byte) (s : State) : Out := .next (if s.cond .z then s.jumpRel e else s)

/-- `ADD HL,HL` (R137). -/
def execAdd_HL_HL (s : State) : Out := .next (s.addHL .hl)

/-- `LD A,(HL+)` (R144). -/
def execLd_A_iHLp (s : State) : Out := .next (State.setHL { s with a := s.busRead s.hl } (s.hl + 1#16))

/-- `DEC HL` (R147). -/
def execDec_HL (s : State) : Out := .next (s.setRp .hl (s.rp .hl - 1#16))

/-- `INC L` (R148). -/
def execInc_L (s : State) : Out := .next (s.incOp8 .l)

/-- `DEC L` (R150). -/
def execDec_L (s : State) : Out := .next (s.decOp8 .l)

/-- `LD L,n` (R152). -/
def execLd_L_n (n : Byte) (s : State) : Out := .next (s.setOp8 .l n)

/-- `CPL` (R159). -/
def execCpl (s : State) : Out := .next (State.setFlags { s with a := ~~~s.a } s.fZ true true s.fC)

/-- `JR NC,e` (R134). -/
def execJr_NC_e (e : Byte) (s : State) : Out := .next (if s.cond .nc then s.jumpRel e else s)

/-- `LD SP,nn` (R135). -/
def execLd_SP_nn (nn : Word) (s : State) : Out := .next (s.setRp .sp nn)

/-- `LD (HL-),A` (R141). -/
def execLd_iHLm_A (s : State) : Out := .next ((s.busWrite s.hl s.a).setHL (s.hl - 1#16))

/-- `INC SP` (R146). -/
def execInc_SP (s : State) : Out := .next (s.setRp .sp (s.rp .sp + 1#16))

/-- `INC (HL)` (R149). -/
def execInc_iHL (s : State) : Out := .next (s.incOp8 .indHL)

/-- `DEC (HL)` (R151). -/
def execDec_iHL (s : State) : Out := .next (s.decOp8 .indHL)

/-- `LD (HL),n` (R153). -/
def execLd_iHL_n (n : Byte) (s : State) : Out := .next (s.setOp8 .indHL n)

/-- `SCF` (R160). -/
def execScf (s : State) : Out := .next (s.setFlags s.fZ false false true)

/-- `JR C,e` (R134). -/
def execJr_C_e (e : Byte) (s : State) : Out := .next (if s.cond .c then s.jumpRel e else s)

/-- `ADD HL,SP` (R137). -/
def execAdd_HL_SP (s : State) : Out := .next (s.addHL .sp)

/-- `LD A,(HL-)` (R145). -/
def execLd_A_iHLm (s : State) : Out := .next (State.setHL { s with a := s.busRead s.hl } (s.hl - 1#16))

/-- `DEC SP` (R147). -/
def execDec_SP (s : State) : Out := .next (s.setRp .sp (s.rp .sp - 1#16))

/-- `INC A` (R148). -/
def execInc_A (s : State) : Out := .next (s.incOp8 .a)

/-- `DEC A` (R150). -/
def execDec_A (s : State) : Out := .next (s.decOp8 .a)

/-- `LD A,n` (R152). -/
def execLd_A_n (n : Byte) (s : State) : Out := .next (s.setOp8 .a n)

/-- `CCF` (R161). -/
def execCcf (s : State) : Out := .next (s.setFlags s.fZ false false (!s.fC))

end Sys2Proof.Machine
end

