-- ==== Sys2Proof/Machine/Block1.lean ====
section
/-! DEFINITION. The meanings of block 1, opcodes 0x40 to 0x7F (spec/41_block1.md). PC is past the whole instruction when a meaning
begins, and its immediates are read (R13, R28). -/

namespace Sys2Proof.Machine

/-- `LD B,B` (R171). -/
def execLd_B_B (s : State) : Out := .next (s.ld8 .b .b)

/-- `LD B,C` (R171). -/
def execLd_B_C (s : State) : Out := .next (s.ld8 .b .c)

/-- `LD B,D` (R171). -/
def execLd_B_D (s : State) : Out := .next (s.ld8 .b .d)

/-- `LD B,E` (R171). -/
def execLd_B_E (s : State) : Out := .next (s.ld8 .b .e)

/-- `LD B,H` (R171). -/
def execLd_B_H (s : State) : Out := .next (s.ld8 .b .h)

/-- `LD B,L` (R171). -/
def execLd_B_L (s : State) : Out := .next (s.ld8 .b .l)

/-- `LD B,(HL)` (R172). -/
def execLd_B_iHL (s : State) : Out := .next (s.ld8 .b .indHL)

/-- `LD B,A` (R171). -/
def execLd_B_A (s : State) : Out := .next (s.ld8 .b .a)

/-- `LD C,B` (R171). -/
def execLd_C_B (s : State) : Out := .next (s.ld8 .c .b)

/-- `LD C,C` (R171). -/
def execLd_C_C (s : State) : Out := .next (s.ld8 .c .c)

/-- `LD C,D` (R171). -/
def execLd_C_D (s : State) : Out := .next (s.ld8 .c .d)

/-- `LD C,E` (R171). -/
def execLd_C_E (s : State) : Out := .next (s.ld8 .c .e)

/-- `LD C,H` (R171). -/
def execLd_C_H (s : State) : Out := .next (s.ld8 .c .h)

/-- `LD C,L` (R171). -/
def execLd_C_L (s : State) : Out := .next (s.ld8 .c .l)

/-- `LD C,(HL)` (R172). -/
def execLd_C_iHL (s : State) : Out := .next (s.ld8 .c .indHL)

/-- `LD C,A` (R171). -/
def execLd_C_A (s : State) : Out := .next (s.ld8 .c .a)

/-- `LD D,B` (R171). -/
def execLd_D_B (s : State) : Out := .next (s.ld8 .d .b)

/-- `LD D,C` (R171). -/
def execLd_D_C (s : State) : Out := .next (s.ld8 .d .c)

/-- `LD D,D` (R171). -/
def execLd_D_D (s : State) : Out := .next (s.ld8 .d .d)

/-- `LD D,E` (R171). -/
def execLd_D_E (s : State) : Out := .next (s.ld8 .d .e)

/-- `LD D,H` (R171). -/
def execLd_D_H (s : State) : Out := .next (s.ld8 .d .h)

/-- `LD D,L` (R171). -/
def execLd_D_L (s : State) : Out := .next (s.ld8 .d .l)

/-- `LD D,(HL)` (R172). -/
def execLd_D_iHL (s : State) : Out := .next (s.ld8 .d .indHL)

/-- `LD D,A` (R171). -/
def execLd_D_A (s : State) : Out := .next (s.ld8 .d .a)

/-- `LD E,B` (R171). -/
def execLd_E_B (s : State) : Out := .next (s.ld8 .e .b)

/-- `LD E,C` (R171). -/
def execLd_E_C (s : State) : Out := .next (s.ld8 .e .c)

/-- `LD E,D` (R171). -/
def execLd_E_D (s : State) : Out := .next (s.ld8 .e .d)

/-- `LD E,E` (R171). -/
def execLd_E_E (s : State) : Out := .next (s.ld8 .e .e)

/-- `LD E,H` (R171). -/
def execLd_E_H (s : State) : Out := .next (s.ld8 .e .h)

/-- `LD E,L` (R171). -/
def execLd_E_L (s : State) : Out := .next (s.ld8 .e .l)

/-- `LD E,(HL)` (R172). -/
def execLd_E_iHL (s : State) : Out := .next (s.ld8 .e .indHL)

/-- `LD E,A` (R171). -/
def execLd_E_A (s : State) : Out := .next (s.ld8 .e .a)

/-- `LD H,B` (R171). -/
def execLd_H_B (s : State) : Out := .next (s.ld8 .h .b)

/-- `LD H,C` (R171). -/
def execLd_H_C (s : State) : Out := .next (s.ld8 .h .c)

/-- `LD H,D` (R171). -/
def execLd_H_D (s : State) : Out := .next (s.ld8 .h .d)

/-- `LD H,E` (R171). -/
def execLd_H_E (s : State) : Out := .next (s.ld8 .h .e)

/-- `LD H,H` (R171). -/
def execLd_H_H (s : State) : Out := .next (s.ld8 .h .h)

/-- `LD H,L` (R171). -/
def execLd_H_L (s : State) : Out := .next (s.ld8 .h .l)

/-- `LD H,(HL)` (R172). -/
def execLd_H_iHL (s : State) : Out := .next (s.ld8 .h .indHL)

/-- `LD H,A` (R171). -/
def execLd_H_A (s : State) : Out := .next (s.ld8 .h .a)

/-- `LD L,B` (R171). -/
def execLd_L_B (s : State) : Out := .next (s.ld8 .l .b)

/-- `LD L,C` (R171). -/
def execLd_L_C (s : State) : Out := .next (s.ld8 .l .c)

/-- `LD L,D` (R171). -/
def execLd_L_D (s : State) : Out := .next (s.ld8 .l .d)

/-- `LD L,E` (R171). -/
def execLd_L_E (s : State) : Out := .next (s.ld8 .l .e)

/-- `LD L,H` (R171). -/
def execLd_L_H (s : State) : Out := .next (s.ld8 .l .h)

/-- `LD L,L` (R171). -/
def execLd_L_L (s : State) : Out := .next (s.ld8 .l .l)

/-- `LD L,(HL)` (R172). -/
def execLd_L_iHL (s : State) : Out := .next (s.ld8 .l .indHL)

/-- `LD L,A` (R171). -/
def execLd_L_A (s : State) : Out := .next (s.ld8 .l .a)

/-- `LD (HL),B` (R174). -/
def execLd_iHL_B (s : State) : Out := .next (s.ld8 .indHL .b)

/-- `LD (HL),C` (R174). -/
def execLd_iHL_C (s : State) : Out := .next (s.ld8 .indHL .c)

/-- `LD (HL),D` (R174). -/
def execLd_iHL_D (s : State) : Out := .next (s.ld8 .indHL .d)

/-- `LD (HL),E` (R174). -/
def execLd_iHL_E (s : State) : Out := .next (s.ld8 .indHL .e)

/-- `LD (HL),H` (R174). -/
def execLd_iHL_H (s : State) : Out := .next (s.ld8 .indHL .h)

/-- `LD (HL),L` (R174). -/
def execLd_iHL_L (s : State) : Out := .next (s.ld8 .indHL .l)

/-- `HALT` (R173). -/
def execHalt (s : State) : Out := .next (s.halt)

/-- `LD (HL),A` (R174). -/
def execLd_iHL_A (s : State) : Out := .next (s.ld8 .indHL .a)

/-- `LD A,B` (R171). -/
def execLd_A_B (s : State) : Out := .next (s.ld8 .a .b)

/-- `LD A,C` (R171). -/
def execLd_A_C (s : State) : Out := .next (s.ld8 .a .c)

/-- `LD A,D` (R171). -/
def execLd_A_D (s : State) : Out := .next (s.ld8 .a .d)

/-- `LD A,E` (R171). -/
def execLd_A_E (s : State) : Out := .next (s.ld8 .a .e)

/-- `LD A,H` (R171). -/
def execLd_A_H (s : State) : Out := .next (s.ld8 .a .h)

/-- `LD A,L` (R171). -/
def execLd_A_L (s : State) : Out := .next (s.ld8 .a .l)

/-- `LD A,(HL)` (R172). -/
def execLd_A_iHL (s : State) : Out := .next (s.ld8 .a .indHL)

/-- `LD A,A` (R171). -/
def execLd_A_A (s : State) : Out := .next (s.ld8 .a .a)

end Sys2Proof.Machine
end

