-- ==== Sys2Proof/Machine/Block2.lean ====
section
/-! DEFINITION. The meanings of block 2, opcodes 0x80 to 0xBF (spec/42_block2.md). PC is past the whole instruction when a meaning
begins, and its immediates are read (R13, R28). -/

namespace Sys2Proof.Machine

/-- `ADD A,B` (R184). -/
def execAdd_A_B (s : State) : Out := .next (s.alu .add (s.op8 .b))

/-- `ADD A,C` (R184). -/
def execAdd_A_C (s : State) : Out := .next (s.alu .add (s.op8 .c))

/-- `ADD A,D` (R184). -/
def execAdd_A_D (s : State) : Out := .next (s.alu .add (s.op8 .d))

/-- `ADD A,E` (R184). -/
def execAdd_A_E (s : State) : Out := .next (s.alu .add (s.op8 .e))

/-- `ADD A,H` (R184). -/
def execAdd_A_H (s : State) : Out := .next (s.alu .add (s.op8 .h))

/-- `ADD A,L` (R184). -/
def execAdd_A_L (s : State) : Out := .next (s.alu .add (s.op8 .l))

/-- `ADD A,(HL)` (R185). -/
def execAdd_A_iHL (s : State) : Out := .next (s.alu .add (s.op8 .indHL))

/-- `ADD A,A` (R184). -/
def execAdd_A_A (s : State) : Out := .next (s.alu .add (s.op8 .a))

/-- `ADC A,B` (R186). -/
def execAdc_A_B (s : State) : Out := .next (s.alu .adc (s.op8 .b))

/-- `ADC A,C` (R186). -/
def execAdc_A_C (s : State) : Out := .next (s.alu .adc (s.op8 .c))

/-- `ADC A,D` (R186). -/
def execAdc_A_D (s : State) : Out := .next (s.alu .adc (s.op8 .d))

/-- `ADC A,E` (R186). -/
def execAdc_A_E (s : State) : Out := .next (s.alu .adc (s.op8 .e))

/-- `ADC A,H` (R186). -/
def execAdc_A_H (s : State) : Out := .next (s.alu .adc (s.op8 .h))

/-- `ADC A,L` (R186). -/
def execAdc_A_L (s : State) : Out := .next (s.alu .adc (s.op8 .l))

/-- `ADC A,(HL)` (R187). -/
def execAdc_A_iHL (s : State) : Out := .next (s.alu .adc (s.op8 .indHL))

/-- `ADC A,A` (R186). -/
def execAdc_A_A (s : State) : Out := .next (s.alu .adc (s.op8 .a))

/-- `SUB B` (R188). -/
def execSub_B (s : State) : Out := .next (s.alu .sub (s.op8 .b))

/-- `SUB C` (R188). -/
def execSub_C (s : State) : Out := .next (s.alu .sub (s.op8 .c))

/-- `SUB D` (R188). -/
def execSub_D (s : State) : Out := .next (s.alu .sub (s.op8 .d))

/-- `SUB E` (R188). -/
def execSub_E (s : State) : Out := .next (s.alu .sub (s.op8 .e))

/-- `SUB H` (R188). -/
def execSub_H (s : State) : Out := .next (s.alu .sub (s.op8 .h))

/-- `SUB L` (R188). -/
def execSub_L (s : State) : Out := .next (s.alu .sub (s.op8 .l))

/-- `SUB (HL)` (R189). -/
def execSub_iHL (s : State) : Out := .next (s.alu .sub (s.op8 .indHL))

/-- `SUB A` (R188). -/
def execSub_A (s : State) : Out := .next (s.alu .sub (s.op8 .a))

/-- `SBC A,B` (R190). -/
def execSbc_A_B (s : State) : Out := .next (s.alu .sbc (s.op8 .b))

/-- `SBC A,C` (R190). -/
def execSbc_A_C (s : State) : Out := .next (s.alu .sbc (s.op8 .c))

/-- `SBC A,D` (R190). -/
def execSbc_A_D (s : State) : Out := .next (s.alu .sbc (s.op8 .d))

/-- `SBC A,E` (R190). -/
def execSbc_A_E (s : State) : Out := .next (s.alu .sbc (s.op8 .e))

/-- `SBC A,H` (R190). -/
def execSbc_A_H (s : State) : Out := .next (s.alu .sbc (s.op8 .h))

/-- `SBC A,L` (R190). -/
def execSbc_A_L (s : State) : Out := .next (s.alu .sbc (s.op8 .l))

/-- `SBC A,(HL)` (R191). -/
def execSbc_A_iHL (s : State) : Out := .next (s.alu .sbc (s.op8 .indHL))

/-- `SBC A,A` (R190). -/
def execSbc_A_A (s : State) : Out := .next (s.alu .sbc (s.op8 .a))

/-- `AND B` (R192). -/
def execAnd_B (s : State) : Out := .next (s.alu .and (s.op8 .b))

/-- `AND C` (R192). -/
def execAnd_C (s : State) : Out := .next (s.alu .and (s.op8 .c))

/-- `AND D` (R192). -/
def execAnd_D (s : State) : Out := .next (s.alu .and (s.op8 .d))

/-- `AND E` (R192). -/
def execAnd_E (s : State) : Out := .next (s.alu .and (s.op8 .e))

/-- `AND H` (R192). -/
def execAnd_H (s : State) : Out := .next (s.alu .and (s.op8 .h))

/-- `AND L` (R192). -/
def execAnd_L (s : State) : Out := .next (s.alu .and (s.op8 .l))

/-- `AND (HL)` (R193). -/
def execAnd_iHL (s : State) : Out := .next (s.alu .and (s.op8 .indHL))

/-- `AND A` (R192). -/
def execAnd_A (s : State) : Out := .next (s.alu .and (s.op8 .a))

/-- `XOR B` (R194). -/
def execXor_B (s : State) : Out := .next (s.alu .xor (s.op8 .b))

/-- `XOR C` (R194). -/
def execXor_C (s : State) : Out := .next (s.alu .xor (s.op8 .c))

/-- `XOR D` (R194). -/
def execXor_D (s : State) : Out := .next (s.alu .xor (s.op8 .d))

/-- `XOR E` (R194). -/
def execXor_E (s : State) : Out := .next (s.alu .xor (s.op8 .e))

/-- `XOR H` (R194). -/
def execXor_H (s : State) : Out := .next (s.alu .xor (s.op8 .h))

/-- `XOR L` (R194). -/
def execXor_L (s : State) : Out := .next (s.alu .xor (s.op8 .l))

/-- `XOR (HL)` (R195). -/
def execXor_iHL (s : State) : Out := .next (s.alu .xor (s.op8 .indHL))

/-- `XOR A` (R194). -/
def execXor_A (s : State) : Out := .next (s.alu .xor (s.op8 .a))

/-- `OR B` (R196). -/
def execOr_B (s : State) : Out := .next (s.alu .or (s.op8 .b))

/-- `OR C` (R196). -/
def execOr_C (s : State) : Out := .next (s.alu .or (s.op8 .c))

/-- `OR D` (R196). -/
def execOr_D (s : State) : Out := .next (s.alu .or (s.op8 .d))

/-- `OR E` (R196). -/
def execOr_E (s : State) : Out := .next (s.alu .or (s.op8 .e))

/-- `OR H` (R196). -/
def execOr_H (s : State) : Out := .next (s.alu .or (s.op8 .h))

/-- `OR L` (R196). -/
def execOr_L (s : State) : Out := .next (s.alu .or (s.op8 .l))

/-- `OR (HL)` (R197). -/
def execOr_iHL (s : State) : Out := .next (s.alu .or (s.op8 .indHL))

/-- `OR A` (R196). -/
def execOr_A (s : State) : Out := .next (s.alu .or (s.op8 .a))

/-- `CP B` (R198). -/
def execCp_B (s : State) : Out := .next (s.alu .cp (s.op8 .b))

/-- `CP C` (R198). -/
def execCp_C (s : State) : Out := .next (s.alu .cp (s.op8 .c))

/-- `CP D` (R198). -/
def execCp_D (s : State) : Out := .next (s.alu .cp (s.op8 .d))

/-- `CP E` (R198). -/
def execCp_E (s : State) : Out := .next (s.alu .cp (s.op8 .e))

/-- `CP H` (R198). -/
def execCp_H (s : State) : Out := .next (s.alu .cp (s.op8 .h))

/-- `CP L` (R198). -/
def execCp_L (s : State) : Out := .next (s.alu .cp (s.op8 .l))

/-- `CP (HL)` (R199). -/
def execCp_iHL (s : State) : Out := .next (s.alu .cp (s.op8 .indHL))

/-- `CP A` (R198). -/
def execCp_A (s : State) : Out := .next (s.alu .cp (s.op8 .a))

end Sys2Proof.Machine
end

