-- ==== Sys2Proof/Machine/Block3.lean ====
section
/-! DEFINITION. The meanings of block 3, opcodes 0xC0 to 0xFF (spec/43_block3.md). PC is past the whole instruction when a meaning
begins, and its immediates are read (R13, R28). -/

namespace Sys2Proof.Machine

/-- `RET NZ` (R211). -/
def execRet_NZ (s : State) : Out := .next (if s.cond .nz then s.returnPc else s)

/-- `POP BC` (R216). -/
def execPop_BC (s : State) : Out := .next (s.pop .bc)

/-- `JP NZ,nn` (R222). -/
def execJp_NZ_nn (nn : Word) (s : State) : Out := .next (if s.cond .nz then s.jump nn else s)

/-- `JP nn` (R227). -/
def execJp_nn (nn : Word) (s : State) : Out := .next (s.jump nn)

/-- `CALL NZ,nn` (R231). -/
def execCall_NZ_nn (nn : Word) (s : State) : Out := .next (if s.cond .nz then s.call nn else s)

/-- `PUSH BC` (R232). -/
def execPush_BC (s : State) : Out := .next (s.push16 (s.rp2 .bc))

/-- `ADD A,n` (R235). -/
def execAdd_A_n (n : Byte) (s : State) : Out := .next (s.alu .add n)

/-- `RST 00H` (R250). -/
def execRst_00H (s : State) : Out := .next (s.call 0x0000#16)

/-- `RET Z` (R211). -/
def execRet_Z (s : State) : Out := .next (if s.cond .z then s.returnPc else s)

/-- `RET` (R218). -/
def execRet (s : State) : Out := .next (s.returnPc)

/-- `JP Z,nn` (R222). -/
def execJp_Z_nn (nn : Word) (s : State) : Out := .next (if s.cond .z then s.jump nn else s)

/-- `PREFIX CB` (R228). -/
def execPrefix_CB (op2 : Byte) (s : State) : Out := .next (s.cbPage op2)

/-- `CALL Z,nn` (R231). -/
def execCall_Z_nn (nn : Word) (s : State) : Out := .next (if s.cond .z then s.call nn else s)

/-- `CALL nn` (R234). -/
def execCall_nn (nn : Word) (s : State) : Out := .next (s.call nn)

/-- `ADC A,n` (R236). -/
def execAdc_A_n (n : Byte) (s : State) : Out := .next (s.alu .adc n)

/-- `RST 08H` (R250). -/
def execRst_08H (s : State) : Out := .next (s.call 0x0008#16)

/-- `RET NC` (R211). -/
def execRet_NC (s : State) : Out := .next (if s.cond .nc then s.returnPc else s)

/-- `POP DE` (R216). -/
def execPop_DE (s : State) : Out := .next (s.pop .de)

/-- `JP NC,nn` (R222). -/
def execJp_NC_nn (nn : Word) (s : State) : Out := .next (if s.cond .nc then s.jump nn else s)

/-- `UNDEFINED` 0xD3 (R243). -/
def execUndefined_D3 (s : State) : Out := .next (s.lock 0xD3#8)

/-- `CALL NC,nn` (R231). -/
def execCall_NC_nn (nn : Word) (s : State) : Out := .next (if s.cond .nc then s.call nn else s)

/-- `PUSH DE` (R232). -/
def execPush_DE (s : State) : Out := .next (s.push16 (s.rp2 .de))

/-- `SUB n` (R237). -/
def execSub_n (n : Byte) (s : State) : Out := .next (s.alu .sub n)

/-- `RST 10H` (R250). -/
def execRst_10H (s : State) : Out := .next (s.call 0x0010#16)

/-- `RET C` (R211). -/
def execRet_C (s : State) : Out := .next (if s.cond .c then s.returnPc else s)

/-- `RETI` (R219). -/
def execReti (s : State) : Out := .next (s.returnFromInterrupt)

/-- `JP C,nn` (R222). -/
def execJp_C_nn (nn : Word) (s : State) : Out := .next (if s.cond .c then s.jump nn else s)

/-- `UNDEFINED` 0xDB (R243). -/
def execUndefined_DB (s : State) : Out := .next (s.lock 0xDB#8)

/-- `CALL C,nn` (R231). -/
def execCall_C_nn (nn : Word) (s : State) : Out := .next (if s.cond .c then s.call nn else s)

/-- `UNDEFINED` 0xDD (R243). -/
def execUndefined_DD (s : State) : Out := .next (s.lock 0xDD#8)

/-- `SBC A,n` (R238). -/
def execSbc_A_n (n : Byte) (s : State) : Out := .next (s.alu .sbc n)

/-- `RST 18H` (R250). -/
def execRst_18H (s : State) : Out := .next (s.call 0x0018#16)

/-- `LDH (n),A` (R212). -/
def execLdh_in_A (n : Byte) (s : State) : Out := .next (s.busWrite (ioAddr n) s.a)

/-- `POP HL` (R216). -/
def execPop_HL (s : State) : Out := .next (s.pop .hl)

/-- `LD (C),A` (R223). -/
def execLd_iC_A (s : State) : Out := .next (s.busWrite (ioAddr s.c) s.a)

/-- `UNDEFINED` 0xE3 (R243). -/
def execUndefined_E3 (s : State) : Out := .next (s.lock 0xE3#8)

/-- `UNDEFINED` 0xE4 (R243). -/
def execUndefined_E4 (s : State) : Out := .next (s.lock 0xE4#8)

/-- `PUSH HL` (R232). -/
def execPush_HL (s : State) : Out := .next (s.push16 (s.rp2 .hl))

/-- `AND n` (R239). -/
def execAnd_n (n : Byte) (s : State) : Out := .next (s.alu .and n)

/-- `RST 20H` (R250). -/
def execRst_20H (s : State) : Out := .next (s.call 0x0020#16)

/-- `ADD SP,e` (R213). -/
def execAdd_SP_e (e : Byte) (s : State) : Out := .next (State.setSPFlags { s with sp := (addSP s.sp e).1 } (addSP s.sp e))

/-- `JP HL` (R220). -/
def execJp_HL (s : State) : Out := .next (s.jump s.hl)

/-- `LD (nn),A` (R224). -/
def execLd_inn_A (nn : Word) (s : State) : Out := .next (s.busWrite nn s.a)

/-- `UNDEFINED` 0xEB (R243). -/
def execUndefined_EB (s : State) : Out := .next (s.lock 0xEB#8)

/-- `UNDEFINED` 0xEC (R243). -/
def execUndefined_EC (s : State) : Out := .next (s.lock 0xEC#8)

/-- `UNDEFINED` 0xED (R243). -/
def execUndefined_ED (s : State) : Out := .next (s.lock 0xED#8)

/-- `XOR n` (R240). -/
def execXor_n (n : Byte) (s : State) : Out := .next (s.alu .xor n)

/-- `RST 28H` (R250). -/
def execRst_28H (s : State) : Out := .next (s.call 0x0028#16)

/-- `LDH A,(n)` (R214). -/
def execLdh_A_in (n : Byte) (s : State) : Out := .next { s with a := s.busRead (ioAddr n) }

/-- `POP AF` (R217). -/
def execPop_AF (s : State) : Out := .next (s.pop .af)

/-- `LD A,(C)` (R225). -/
def execLd_A_iC (s : State) : Out := .next { s with a := s.busRead (ioAddr s.c) }

/-- `DI` (R229). -/
def execDi (s : State) : Out := .next { s with ime := false, imePending := false }

/-- `UNDEFINED` 0xF4 (R243). -/
def execUndefined_F4 (s : State) : Out := .next (s.lock 0xF4#8)

/-- `PUSH AF` (R233). -/
def execPush_AF (s : State) : Out := .next (s.push16 (s.rp2 .af))

/-- `OR n` (R241). -/
def execOr_n (n : Byte) (s : State) : Out := .next (s.alu .or n)

/-- `RST 30H` (R250). -/
def execRst_30H (s : State) : Out := .next (s.call 0x0030#16)

/-- `LD HL,SP+e` (R215). -/
def execLd_HL_SP_e (e : Byte) (s : State) : Out := .next ((s.setHL (addSP s.sp e).1).setSPFlags (addSP s.sp e))

/-- `LD SP,HL` (R221). -/
def execLd_SP_HL (s : State) : Out := .next { s with sp := s.hl }

/-- `LD A,(nn)` (R226). -/
def execLd_A_inn (nn : Word) (s : State) : Out := .next { s with a := s.busRead nn }

/-- `EI` (R230). -/
def execEi (s : State) : Out := .next (if s.ime = false ∧ s.imePending = false then { s with imePending := true } else s)

/-- `UNDEFINED` 0xFC (R243). -/
def execUndefined_FC (s : State) : Out := .next (s.lock 0xFC#8)

/-- `UNDEFINED` 0xFD (R243). -/
def execUndefined_FD (s : State) : Out := .next (s.lock 0xFD#8)

/-- `CP n` (R242). -/
def execCp_n (n : Byte) (s : State) : Out := .next (s.alu .cp n)

/-- `RST 38H` (R250). -/
def execRst_38H (s : State) : Out := .next (s.call 0x0038#16)

end Sys2Proof.Machine
end

