-- ==== Sys2Proof/Machine/CbBit.lean ====
section
/-! DEFINITION. The meanings of the CB page, BIT, CB 40 to CB 7F (spec/44_cb_prefixed.md). PC is past the whole instruction when a meaning
begins, and its immediates are read (R13, R28). -/

namespace Sys2Proof.Machine

/-- `BIT 0,B` (R278). -/
def execBit_0_B (s : State) : Out := .next (s.bitTest .i0 .b)

/-- `BIT 0,C` (R278). -/
def execBit_0_C (s : State) : Out := .next (s.bitTest .i0 .c)

/-- `BIT 0,D` (R278). -/
def execBit_0_D (s : State) : Out := .next (s.bitTest .i0 .d)

/-- `BIT 0,E` (R278). -/
def execBit_0_E (s : State) : Out := .next (s.bitTest .i0 .e)

/-- `BIT 0,H` (R278). -/
def execBit_0_H (s : State) : Out := .next (s.bitTest .i0 .h)

/-- `BIT 0,L` (R278). -/
def execBit_0_L (s : State) : Out := .next (s.bitTest .i0 .l)

/-- `BIT 0,(HL)` (R279). -/
def execBit_0_iHL (s : State) : Out := .next (s.bitTest .i0 .indHL)

/-- `BIT 0,A` (R278). -/
def execBit_0_A (s : State) : Out := .next (s.bitTest .i0 .a)

/-- `BIT 1,B` (R278). -/
def execBit_1_B (s : State) : Out := .next (s.bitTest .i1 .b)

/-- `BIT 1,C` (R278). -/
def execBit_1_C (s : State) : Out := .next (s.bitTest .i1 .c)

/-- `BIT 1,D` (R278). -/
def execBit_1_D (s : State) : Out := .next (s.bitTest .i1 .d)

/-- `BIT 1,E` (R278). -/
def execBit_1_E (s : State) : Out := .next (s.bitTest .i1 .e)

/-- `BIT 1,H` (R278). -/
def execBit_1_H (s : State) : Out := .next (s.bitTest .i1 .h)

/-- `BIT 1,L` (R278). -/
def execBit_1_L (s : State) : Out := .next (s.bitTest .i1 .l)

/-- `BIT 1,(HL)` (R279). -/
def execBit_1_iHL (s : State) : Out := .next (s.bitTest .i1 .indHL)

/-- `BIT 1,A` (R278). -/
def execBit_1_A (s : State) : Out := .next (s.bitTest .i1 .a)

/-- `BIT 2,B` (R278). -/
def execBit_2_B (s : State) : Out := .next (s.bitTest .i2 .b)

/-- `BIT 2,C` (R278). -/
def execBit_2_C (s : State) : Out := .next (s.bitTest .i2 .c)

/-- `BIT 2,D` (R278). -/
def execBit_2_D (s : State) : Out := .next (s.bitTest .i2 .d)

/-- `BIT 2,E` (R278). -/
def execBit_2_E (s : State) : Out := .next (s.bitTest .i2 .e)

/-- `BIT 2,H` (R278). -/
def execBit_2_H (s : State) : Out := .next (s.bitTest .i2 .h)

/-- `BIT 2,L` (R278). -/
def execBit_2_L (s : State) : Out := .next (s.bitTest .i2 .l)

/-- `BIT 2,(HL)` (R279). -/
def execBit_2_iHL (s : State) : Out := .next (s.bitTest .i2 .indHL)

/-- `BIT 2,A` (R278). -/
def execBit_2_A (s : State) : Out := .next (s.bitTest .i2 .a)

/-- `BIT 3,B` (R278). -/
def execBit_3_B (s : State) : Out := .next (s.bitTest .i3 .b)

/-- `BIT 3,C` (R278). -/
def execBit_3_C (s : State) : Out := .next (s.bitTest .i3 .c)

/-- `BIT 3,D` (R278). -/
def execBit_3_D (s : State) : Out := .next (s.bitTest .i3 .d)

/-- `BIT 3,E` (R278). -/
def execBit_3_E (s : State) : Out := .next (s.bitTest .i3 .e)

/-- `BIT 3,H` (R278). -/
def execBit_3_H (s : State) : Out := .next (s.bitTest .i3 .h)

/-- `BIT 3,L` (R278). -/
def execBit_3_L (s : State) : Out := .next (s.bitTest .i3 .l)

/-- `BIT 3,(HL)` (R279). -/
def execBit_3_iHL (s : State) : Out := .next (s.bitTest .i3 .indHL)

/-- `BIT 3,A` (R278). -/
def execBit_3_A (s : State) : Out := .next (s.bitTest .i3 .a)

/-- `BIT 4,B` (R278). -/
def execBit_4_B (s : State) : Out := .next (s.bitTest .i4 .b)

/-- `BIT 4,C` (R278). -/
def execBit_4_C (s : State) : Out := .next (s.bitTest .i4 .c)

/-- `BIT 4,D` (R278). -/
def execBit_4_D (s : State) : Out := .next (s.bitTest .i4 .d)

/-- `BIT 4,E` (R278). -/
def execBit_4_E (s : State) : Out := .next (s.bitTest .i4 .e)

/-- `BIT 4,H` (R278). -/
def execBit_4_H (s : State) : Out := .next (s.bitTest .i4 .h)

/-- `BIT 4,L` (R278). -/
def execBit_4_L (s : State) : Out := .next (s.bitTest .i4 .l)

/-- `BIT 4,(HL)` (R279). -/
def execBit_4_iHL (s : State) : Out := .next (s.bitTest .i4 .indHL)

/-- `BIT 4,A` (R278). -/
def execBit_4_A (s : State) : Out := .next (s.bitTest .i4 .a)

/-- `BIT 5,B` (R278). -/
def execBit_5_B (s : State) : Out := .next (s.bitTest .i5 .b)

/-- `BIT 5,C` (R278). -/
def execBit_5_C (s : State) : Out := .next (s.bitTest .i5 .c)

/-- `BIT 5,D` (R278). -/
def execBit_5_D (s : State) : Out := .next (s.bitTest .i5 .d)

/-- `BIT 5,E` (R278). -/
def execBit_5_E (s : State) : Out := .next (s.bitTest .i5 .e)

/-- `BIT 5,H` (R278). -/
def execBit_5_H (s : State) : Out := .next (s.bitTest .i5 .h)

/-- `BIT 5,L` (R278). -/
def execBit_5_L (s : State) : Out := .next (s.bitTest .i5 .l)

/-- `BIT 5,(HL)` (R279). -/
def execBit_5_iHL (s : State) : Out := .next (s.bitTest .i5 .indHL)

/-- `BIT 5,A` (R278). -/
def execBit_5_A (s : State) : Out := .next (s.bitTest .i5 .a)

/-- `BIT 6,B` (R278). -/
def execBit_6_B (s : State) : Out := .next (s.bitTest .i6 .b)

/-- `BIT 6,C` (R278). -/
def execBit_6_C (s : State) : Out := .next (s.bitTest .i6 .c)

/-- `BIT 6,D` (R278). -/
def execBit_6_D (s : State) : Out := .next (s.bitTest .i6 .d)

/-- `BIT 6,E` (R278). -/
def execBit_6_E (s : State) : Out := .next (s.bitTest .i6 .e)

/-- `BIT 6,H` (R278). -/
def execBit_6_H (s : State) : Out := .next (s.bitTest .i6 .h)

/-- `BIT 6,L` (R278). -/
def execBit_6_L (s : State) : Out := .next (s.bitTest .i6 .l)

/-- `BIT 6,(HL)` (R279). -/
def execBit_6_iHL (s : State) : Out := .next (s.bitTest .i6 .indHL)

/-- `BIT 6,A` (R278). -/
def execBit_6_A (s : State) : Out := .next (s.bitTest .i6 .a)

/-- `BIT 7,B` (R278). -/
def execBit_7_B (s : State) : Out := .next (s.bitTest .i7 .b)

/-- `BIT 7,C` (R278). -/
def execBit_7_C (s : State) : Out := .next (s.bitTest .i7 .c)

/-- `BIT 7,D` (R278). -/
def execBit_7_D (s : State) : Out := .next (s.bitTest .i7 .d)

/-- `BIT 7,E` (R278). -/
def execBit_7_E (s : State) : Out := .next (s.bitTest .i7 .e)

/-- `BIT 7,H` (R278). -/
def execBit_7_H (s : State) : Out := .next (s.bitTest .i7 .h)

/-- `BIT 7,L` (R278). -/
def execBit_7_L (s : State) : Out := .next (s.bitTest .i7 .l)

/-- `BIT 7,(HL)` (R279). -/
def execBit_7_iHL (s : State) : Out := .next (s.bitTest .i7 .indHL)

/-- `BIT 7,A` (R278). -/
def execBit_7_A (s : State) : Out := .next (s.bitTest .i7 .a)

end Sys2Proof.Machine
end

