-- ==== Sys2Proof/Machine/CbRes.lean ====
section
/-! DEFINITION. The meanings of the CB page, RES, CB 80 to CB BF (spec/44_cb_prefixed.md). PC is past the whole instruction when a meaning
begins, and its immediates are read (R13, R28). -/

namespace Sys2Proof.Machine

/-- `RES 0,B` (R280). -/
def execRes_0_B (s : State) : Out := .next (s.bitReset .i0 .b)

/-- `RES 0,C` (R280). -/
def execRes_0_C (s : State) : Out := .next (s.bitReset .i0 .c)

/-- `RES 0,D` (R280). -/
def execRes_0_D (s : State) : Out := .next (s.bitReset .i0 .d)

/-- `RES 0,E` (R280). -/
def execRes_0_E (s : State) : Out := .next (s.bitReset .i0 .e)

/-- `RES 0,H` (R280). -/
def execRes_0_H (s : State) : Out := .next (s.bitReset .i0 .h)

/-- `RES 0,L` (R280). -/
def execRes_0_L (s : State) : Out := .next (s.bitReset .i0 .l)

/-- `RES 0,(HL)` (R281). -/
def execRes_0_iHL (s : State) : Out := .next (s.bitReset .i0 .indHL)

/-- `RES 0,A` (R280). -/
def execRes_0_A (s : State) : Out := .next (s.bitReset .i0 .a)

/-- `RES 1,B` (R280). -/
def execRes_1_B (s : State) : Out := .next (s.bitReset .i1 .b)

/-- `RES 1,C` (R280). -/
def execRes_1_C (s : State) : Out := .next (s.bitReset .i1 .c)

/-- `RES 1,D` (R280). -/
def execRes_1_D (s : State) : Out := .next (s.bitReset .i1 .d)

/-- `RES 1,E` (R280). -/
def execRes_1_E (s : State) : Out := .next (s.bitReset .i1 .e)

/-- `RES 1,H` (R280). -/
def execRes_1_H (s : State) : Out := .next (s.bitReset .i1 .h)

/-- `RES 1,L` (R280). -/
def execRes_1_L (s : State) : Out := .next (s.bitReset .i1 .l)

/-- `RES 1,(HL)` (R281). -/
def execRes_1_iHL (s : State) : Out := .next (s.bitReset .i1 .indHL)

/-- `RES 1,A` (R280). -/
def execRes_1_A (s : State) : Out := .next (s.bitReset .i1 .a)

/-- `RES 2,B` (R280). -/
def execRes_2_B (s : State) : Out := .next (s.bitReset .i2 .b)

/-- `RES 2,C` (R280). -/
def execRes_2_C (s : State) : Out := .next (s.bitReset .i2 .c)

/-- `RES 2,D` (R280). -/
def execRes_2_D (s : State) : Out := .next (s.bitReset .i2 .d)

/-- `RES 2,E` (R280). -/
def execRes_2_E (s : State) : Out := .next (s.bitReset .i2 .e)

/-- `RES 2,H` (R280). -/
def execRes_2_H (s : State) : Out := .next (s.bitReset .i2 .h)

/-- `RES 2,L` (R280). -/
def execRes_2_L (s : State) : Out := .next (s.bitReset .i2 .l)

/-- `RES 2,(HL)` (R281). -/
def execRes_2_iHL (s : State) : Out := .next (s.bitReset .i2 .indHL)

/-- `RES 2,A` (R280). -/
def execRes_2_A (s : State) : Out := .next (s.bitReset .i2 .a)

/-- `RES 3,B` (R280). -/
def execRes_3_B (s : State) : Out := .next (s.bitReset .i3 .b)

/-- `RES 3,C` (R280). -/
def execRes_3_C (s : State) : Out := .next (s.bitReset .i3 .c)

/-- `RES 3,D` (R280). -/
def execRes_3_D (s : State) : Out := .next (s.bitReset .i3 .d)

/-- `RES 3,E` (R280). -/
def execRes_3_E (s : State) : Out := .next (s.bitReset .i3 .e)

/-- `RES 3,H` (R280). -/
def execRes_3_H (s : State) : Out := .next (s.bitReset .i3 .h)

/-- `RES 3,L` (R280). -/
def execRes_3_L (s : State) : Out := .next (s.bitReset .i3 .l)

/-- `RES 3,(HL)` (R281). -/
def execRes_3_iHL (s : State) : Out := .next (s.bitReset .i3 .indHL)

/-- `RES 3,A` (R280). -/
def execRes_3_A (s : State) : Out := .next (s.bitReset .i3 .a)

/-- `RES 4,B` (R280). -/
def execRes_4_B (s : State) : Out := .next (s.bitReset .i4 .b)

/-- `RES 4,C` (R280). -/
def execRes_4_C (s : State) : Out := .next (s.bitReset .i4 .c)

/-- `RES 4,D` (R280). -/
def execRes_4_D (s : State) : Out := .next (s.bitReset .i4 .d)

/-- `RES 4,E` (R280). -/
def execRes_4_E (s : State) : Out := .next (s.bitReset .i4 .e)

/-- `RES 4,H` (R280). -/
def execRes_4_H (s : State) : Out := .next (s.bitReset .i4 .h)

/-- `RES 4,L` (R280). -/
def execRes_4_L (s : State) : Out := .next (s.bitReset .i4 .l)

/-- `RES 4,(HL)` (R281). -/
def execRes_4_iHL (s : State) : Out := .next (s.bitReset .i4 .indHL)

/-- `RES 4,A` (R280). -/
def execRes_4_A (s : State) : Out := .next (s.bitReset .i4 .a)

/-- `RES 5,B` (R280). -/
def execRes_5_B (s : State) : Out := .next (s.bitReset .i5 .b)

/-- `RES 5,C` (R280). -/
def execRes_5_C (s : State) : Out := .next (s.bitReset .i5 .c)

/-- `RES 5,D` (R280). -/
def execRes_5_D (s : State) : Out := .next (s.bitReset .i5 .d)

/-- `RES 5,E` (R280). -/
def execRes_5_E (s : State) : Out := .next (s.bitReset .i5 .e)

/-- `RES 5,H` (R280). -/
def execRes_5_H (s : State) : Out := .next (s.bitReset .i5 .h)

/-- `RES 5,L` (R280). -/
def execRes_5_L (s : State) : Out := .next (s.bitReset .i5 .l)

/-- `RES 5,(HL)` (R281). -/
def execRes_5_iHL (s : State) : Out := .next (s.bitReset .i5 .indHL)

/-- `RES 5,A` (R280). -/
def execRes_5_A (s : State) : Out := .next (s.bitReset .i5 .a)

/-- `RES 6,B` (R280). -/
def execRes_6_B (s : State) : Out := .next (s.bitReset .i6 .b)

/-- `RES 6,C` (R280). -/
def execRes_6_C (s : State) : Out := .next (s.bitReset .i6 .c)

/-- `RES 6,D` (R280). -/
def execRes_6_D (s : State) : Out := .next (s.bitReset .i6 .d)

/-- `RES 6,E` (R280). -/
def execRes_6_E (s : State) : Out := .next (s.bitReset .i6 .e)

/-- `RES 6,H` (R280). -/
def execRes_6_H (s : State) : Out := .next (s.bitReset .i6 .h)

/-- `RES 6,L` (R280). -/
def execRes_6_L (s : State) : Out := .next (s.bitReset .i6 .l)

/-- `RES 6,(HL)` (R281). -/
def execRes_6_iHL (s : State) : Out := .next (s.bitReset .i6 .indHL)

/-- `RES 6,A` (R280). -/
def execRes_6_A (s : State) : Out := .next (s.bitReset .i6 .a)

/-- `RES 7,B` (R280). -/
def execRes_7_B (s : State) : Out := .next (s.bitReset .i7 .b)

/-- `RES 7,C` (R280). -/
def execRes_7_C (s : State) : Out := .next (s.bitReset .i7 .c)

/-- `RES 7,D` (R280). -/
def execRes_7_D (s : State) : Out := .next (s.bitReset .i7 .d)

/-- `RES 7,E` (R280). -/
def execRes_7_E (s : State) : Out := .next (s.bitReset .i7 .e)

/-- `RES 7,H` (R280). -/
def execRes_7_H (s : State) : Out := .next (s.bitReset .i7 .h)

/-- `RES 7,L` (R280). -/
def execRes_7_L (s : State) : Out := .next (s.bitReset .i7 .l)

/-- `RES 7,(HL)` (R281). -/
def execRes_7_iHL (s : State) : Out := .next (s.bitReset .i7 .indHL)

/-- `RES 7,A` (R280). -/
def execRes_7_A (s : State) : Out := .next (s.bitReset .i7 .a)

end Sys2Proof.Machine
end

