-- ==== Sys2Proof/Machine/CbRotate.lean ====
section
/-! DEFINITION. The meanings of the CB page, rotates and shifts, CB 00 to CB 3F (spec/44_cb_prefixed.md). PC is past the whole instruction when a meaning
begins, and its immediates are read (R13, R28). -/

namespace Sys2Proof.Machine

/-- `RLC B` (R262). -/
def execRlc_B (s : State) : Out := .next (s.rot .rlc .b)

/-- `RLC C` (R262). -/
def execRlc_C (s : State) : Out := .next (s.rot .rlc .c)

/-- `RLC D` (R262). -/
def execRlc_D (s : State) : Out := .next (s.rot .rlc .d)

/-- `RLC E` (R262). -/
def execRlc_E (s : State) : Out := .next (s.rot .rlc .e)

/-- `RLC H` (R262). -/
def execRlc_H (s : State) : Out := .next (s.rot .rlc .h)

/-- `RLC L` (R262). -/
def execRlc_L (s : State) : Out := .next (s.rot .rlc .l)

/-- `RLC (HL)` (R263). -/
def execRlc_iHL (s : State) : Out := .next (s.rot .rlc .indHL)

/-- `RLC A` (R262). -/
def execRlc_A (s : State) : Out := .next (s.rot .rlc .a)

/-- `RRC B` (R264). -/
def execRrc_B (s : State) : Out := .next (s.rot .rrc .b)

/-- `RRC C` (R264). -/
def execRrc_C (s : State) : Out := .next (s.rot .rrc .c)

/-- `RRC D` (R264). -/
def execRrc_D (s : State) : Out := .next (s.rot .rrc .d)

/-- `RRC E` (R264). -/
def execRrc_E (s : State) : Out := .next (s.rot .rrc .e)

/-- `RRC H` (R264). -/
def execRrc_H (s : State) : Out := .next (s.rot .rrc .h)

/-- `RRC L` (R264). -/
def execRrc_L (s : State) : Out := .next (s.rot .rrc .l)

/-- `RRC (HL)` (R265). -/
def execRrc_iHL (s : State) : Out := .next (s.rot .rrc .indHL)

/-- `RRC A` (R264). -/
def execRrc_A (s : State) : Out := .next (s.rot .rrc .a)

/-- `RL B` (R266). -/
def execRl_B (s : State) : Out := .next (s.rot .rl .b)

/-- `RL C` (R266). -/
def execRl_C (s : State) : Out := .next (s.rot .rl .c)

/-- `RL D` (R266). -/
def execRl_D (s : State) : Out := .next (s.rot .rl .d)

/-- `RL E` (R266). -/
def execRl_E (s : State) : Out := .next (s.rot .rl .e)

/-- `RL H` (R266). -/
def execRl_H (s : State) : Out := .next (s.rot .rl .h)

/-- `RL L` (R266). -/
def execRl_L (s : State) : Out := .next (s.rot .rl .l)

/-- `RL (HL)` (R267). -/
def execRl_iHL (s : State) : Out := .next (s.rot .rl .indHL)

/-- `RL A` (R266). -/
def execRl_A (s : State) : Out := .next (s.rot .rl .a)

/-- `RR B` (R268). -/
def execRr_B (s : State) : Out := .next (s.rot .rr .b)

/-- `RR C` (R268). -/
def execRr_C (s : State) : Out := .next (s.rot .rr .c)

/-- `RR D` (R268). -/
def execRr_D (s : State) : Out := .next (s.rot .rr .d)

/-- `RR E` (R268). -/
def execRr_E (s : State) : Out := .next (s.rot .rr .e)

/-- `RR H` (R268). -/
def execRr_H (s : State) : Out := .next (s.rot .rr .h)

/-- `RR L` (R268). -/
def execRr_L (s : State) : Out := .next (s.rot .rr .l)

/-- `RR (HL)` (R269). -/
def execRr_iHL (s : State) : Out := .next (s.rot .rr .indHL)

/-- `RR A` (R268). -/
def execRr_A (s : State) : Out := .next (s.rot .rr .a)

/-- `SLA B` (R270). -/
def execSla_B (s : State) : Out := .next (s.rot .sla .b)

/-- `SLA C` (R270). -/
def execSla_C (s : State) : Out := .next (s.rot .sla .c)

/-- `SLA D` (R270). -/
def execSla_D (s : State) : Out := .next (s.rot .sla .d)

/-- `SLA E` (R270). -/
def execSla_E (s : State) : Out := .next (s.rot .sla .e)

/-- `SLA H` (R270). -/
def execSla_H (s : State) : Out := .next (s.rot .sla .h)

/-- `SLA L` (R270). -/
def execSla_L (s : State) : Out := .next (s.rot .sla .l)

/-- `SLA (HL)` (R271). -/
def execSla_iHL (s : State) : Out := .next (s.rot .sla .indHL)

/-- `SLA A` (R270). -/
def execSla_A (s : State) : Out := .next (s.rot .sla .a)

/-- `SRA B` (R272). -/
def execSra_B (s : State) : Out := .next (s.rot .sra .b)

/-- `SRA C` (R272). -/
def execSra_C (s : State) : Out := .next (s.rot .sra .c)

/-- `SRA D` (R272). -/
def execSra_D (s : State) : Out := .next (s.rot .sra .d)

/-- `SRA E` (R272). -/
def execSra_E (s : State) : Out := .next (s.rot .sra .e)

/-- `SRA H` (R272). -/
def execSra_H (s : State) : Out := .next (s.rot .sra .h)

/-- `SRA L` (R272). -/
def execSra_L (s : State) : Out := .next (s.rot .sra .l)

/-- `SRA (HL)` (R273). -/
def execSra_iHL (s : State) : Out := .next (s.rot .sra .indHL)

/-- `SRA A` (R272). -/
def execSra_A (s : State) : Out := .next (s.rot .sra .a)

/-- `SWAP B` (R274). -/
def execSwap_B (s : State) : Out := .next (s.rot .swap .b)

/-- `SWAP C` (R274). -/
def execSwap_C (s : State) : Out := .next (s.rot .swap .c)

/-- `SWAP D` (R274). -/
def execSwap_D (s : State) : Out := .next (s.rot .swap .d)

/-- `SWAP E` (R274). -/
def execSwap_E (s : State) : Out := .next (s.rot .swap .e)

/-- `SWAP H` (R274). -/
def execSwap_H (s : State) : Out := .next (s.rot .swap .h)

/-- `SWAP L` (R274). -/
def execSwap_L (s : State) : Out := .next (s.rot .swap .l)

/-- `SWAP (HL)` (R275). -/
def execSwap_iHL (s : State) : Out := .next (s.rot .swap .indHL)

/-- `SWAP A` (R274). -/
def execSwap_A (s : State) : Out := .next (s.rot .swap .a)

/-- `SRL B` (R276). -/
def execSrl_B (s : State) : Out := .next (s.rot .srl .b)

/-- `SRL C` (R276). -/
def execSrl_C (s : State) : Out := .next (s.rot .srl .c)

/-- `SRL D` (R276). -/
def execSrl_D (s : State) : Out := .next (s.rot .srl .d)

/-- `SRL E` (R276). -/
def execSrl_E (s : State) : Out := .next (s.rot .srl .e)

/-- `SRL H` (R276). -/
def execSrl_H (s : State) : Out := .next (s.rot .srl .h)

/-- `SRL L` (R276). -/
def execSrl_L (s : State) : Out := .next (s.rot .srl .l)

/-- `SRL (HL)` (R277). -/
def execSrl_iHL (s : State) : Out := .next (s.rot .srl .indHL)

/-- `SRL A` (R276). -/
def execSrl_A (s : State) : Out := .next (s.rot .srl .a)

end Sys2Proof.Machine
end

