-- ==== Sys2Proof/Machine/CbSet.lean ====
section
/-! DEFINITION. The meanings of the CB page, SET, CB C0 to CB FF (spec/44_cb_prefixed.md). PC is past the whole instruction when a meaning
begins, and its immediates are read (R13, R28). -/

namespace Sys2Proof.Machine

/-- `SET 0,B` (R282). -/
def execSet_0_B (s : State) : Out := .next (s.bitSet .i0 .b)

/-- `SET 0,C` (R282). -/
def execSet_0_C (s : State) : Out := .next (s.bitSet .i0 .c)

/-- `SET 0,D` (R282). -/
def execSet_0_D (s : State) : Out := .next (s.bitSet .i0 .d)

/-- `SET 0,E` (R282). -/
def execSet_0_E (s : State) : Out := .next (s.bitSet .i0 .e)

/-- `SET 0,H` (R282). -/
def execSet_0_H (s : State) : Out := .next (s.bitSet .i0 .h)

/-- `SET 0,L` (R282). -/
def execSet_0_L (s : State) : Out := .next (s.bitSet .i0 .l)

/-- `SET 0,(HL)` (R283). -/
def execSet_0_iHL (s : State) : Out := .next (s.bitSet .i0 .indHL)

/-- `SET 0,A` (R282). -/
def execSet_0_A (s : State) : Out := .next (s.bitSet .i0 .a)

/-- `SET 1,B` (R282). -/
def execSet_1_B (s : State) : Out := .next (s.bitSet .i1 .b)

/-- `SET 1,C` (R282). -/
def execSet_1_C (s : State) : Out := .next (s.bitSet .i1 .c)

/-- `SET 1,D` (R282). -/
def execSet_1_D (s : State) : Out := .next (s.bitSet .i1 .d)

/-- `SET 1,E` (R282). -/
def execSet_1_E (s : State) : Out := .next (s.bitSet .i1 .e)

/-- `SET 1,H` (R282). -/
def execSet_1_H (s : State) : Out := .next (s.bitSet .i1 .h)

/-- `SET 1,L` (R282). -/
def execSet_1_L (s : State) : Out := .next (s.bitSet .i1 .l)

/-- `SET 1,(HL)` (R283). -/
def execSet_1_iHL (s : State) : Out := .next (s.bitSet .i1 .indHL)

/-- `SET 1,A` (R282). -/
def execSet_1_A (s : State) : Out := .next (s.bitSet .i1 .a)

/-- `SET 2,B` (R282). -/
def execSet_2_B (s : State) : Out := .next (s.bitSet .i2 .b)

/-- `SET 2,C` (R282). -/
def execSet_2_C (s : State) : Out := .next (s.bitSet .i2 .c)

/-- `SET 2,D` (R282). -/
def execSet_2_D (s : State) : Out := .next (s.bitSet .i2 .d)

/-- `SET 2,E` (R282). -/
def execSet_2_E (s : State) : Out := .next (s.bitSet .i2 .e)

/-- `SET 2,H` (R282). -/
def execSet_2_H (s : State) : Out := .next (s.bitSet .i2 .h)

/-- `SET 2,L` (R282). -/
def execSet_2_L (s : State) : Out := .next (s.bitSet .i2 .l)

/-- `SET 2,(HL)` (R283). -/
def execSet_2_iHL (s : State) : Out := .next (s.bitSet .i2 .indHL)

/-- `SET 2,A` (R282). -/
def execSet_2_A (s : State) : Out := .next (s.bitSet .i2 .a)

/-- `SET 3,B` (R282). -/
def execSet_3_B (s : State) : Out := .next (s.bitSet .i3 .b)

/-- `SET 3,C` (R282). -/
def execSet_3_C (s : State) : Out := .next (s.bitSet .i3 .c)

/-- `SET 3,D` (R282). -/
def execSet_3_D (s : State) : Out := .next (s.bitSet .i3 .d)

/-- `SET 3,E` (R282). -/
def execSet_3_E (s : State) : Out := .next (s.bitSet .i3 .e)

/-- `SET 3,H` (R282). -/
def execSet_3_H (s : State) : Out := .next (s.bitSet .i3 .h)

/-- `SET 3,L` (R282). -/
def execSet_3_L (s : State) : Out := .next (s.bitSet .i3 .l)

/-- `SET 3,(HL)` (R283). -/
def execSet_3_iHL (s : State) : Out := .next (s.bitSet .i3 .indHL)

/-- `SET 3,A` (R282). -/
def execSet_3_A (s : State) : Out := .next (s.bitSet .i3 .a)

/-- `SET 4,B` (R282). -/
def execSet_4_B (s : State) : Out := .next (s.bitSet .i4 .b)

/-- `SET 4,C` (R282). -/
def execSet_4_C (s : State) : Out := .next (s.bitSet .i4 .c)

/-- `SET 4,D` (R282). -/
def execSet_4_D (s : State) : Out := .next (s.bitSet .i4 .d)

/-- `SET 4,E` (R282). -/
def execSet_4_E (s : State) : Out := .next (s.bitSet .i4 .e)

/-- `SET 4,H` (R282). -/
def execSet_4_H (s : State) : Out := .next (s.bitSet .i4 .h)

/-- `SET 4,L` (R282). -/
def execSet_4_L (s : State) : Out := .next (s.bitSet .i4 .l)

/-- `SET 4,(HL)` (R283). -/
def execSet_4_iHL (s : State) : Out := .next (s.bitSet .i4 .indHL)

/-- `SET 4,A` (R282). -/
def execSet_4_A (s : State) : Out := .next (s.bitSet .i4 .a)

/-- `SET 5,B` (R282). -/
def execSet_5_B (s : State) : Out := .next (s.bitSet .i5 .b)

/-- `SET 5,C` (R282). -/
def execSet_5_C (s : State) : Out := .next (s.bitSet .i5 .c)

/-- `SET 5,D` (R282). -/
def execSet_5_D (s : State) : Out := .next (s.bitSet .i5 .d)

/-- `SET 5,E` (R282). -/
def execSet_5_E (s : State) : Out := .next (s.bitSet .i5 .e)

/-- `SET 5,H` (R282). -/
def execSet_5_H (s : State) : Out := .next (s.bitSet .i5 .h)

/-- `SET 5,L` (R282). -/
def execSet_5_L (s : State) : Out := .next (s.bitSet .i5 .l)

/-- `SET 5,(HL)` (R283). -/
def execSet_5_iHL (s : State) : Out := .next (s.bitSet .i5 .indHL)

/-- `SET 5,A` (R282). -/
def execSet_5_A (s : State) : Out := .next (s.bitSet .i5 .a)

/-- `SET 6,B` (R282). -/
def execSet_6_B (s : State) : Out := .next (s.bitSet .i6 .b)

/-- `SET 6,C` (R282). -/
def execSet_6_C (s : State) : Out := .next (s.bitSet .i6 .c)

/-- `SET 6,D` (R282). -/
def execSet_6_D (s : State) : Out := .next (s.bitSet .i6 .d)

/-- `SET 6,E` (R282). -/
def execSet_6_E (s : State) : Out := .next (s.bitSet .i6 .e)

/-- `SET 6,H` (R282). -/
def execSet_6_H (s : State) : Out := .next (s.bitSet .i6 .h)

/-- `SET 6,L` (R282). -/
def execSet_6_L (s : State) : Out := .next (s.bitSet .i6 .l)

/-- `SET 6,(HL)` (R283). -/
def execSet_6_iHL (s : State) : Out := .next (s.bitSet .i6 .indHL)

/-- `SET 6,A` (R282). -/
def execSet_6_A (s : State) : Out := .next (s.bitSet .i6 .a)

/-- `SET 7,B` (R282). -/
def execSet_7_B (s : State) : Out := .next (s.bitSet .i7 .b)

/-- `SET 7,C` (R282). -/
def execSet_7_C (s : State) : Out := .next (s.bitSet .i7 .c)

/-- `SET 7,D` (R282). -/
def execSet_7_D (s : State) : Out := .next (s.bitSet .i7 .d)

/-- `SET 7,E` (R282). -/
def execSet_7_E (s : State) : Out := .next (s.bitSet .i7 .e)

/-- `SET 7,H` (R282). -/
def execSet_7_H (s : State) : Out := .next (s.bitSet .i7 .h)

/-- `SET 7,L` (R282). -/
def execSet_7_L (s : State) : Out := .next (s.bitSet .i7 .l)

/-- `SET 7,(HL)` (R283). -/
def execSet_7_iHL (s : State) : Out := .next (s.bitSet .i7 .indHL)

/-- `SET 7,A` (R282). -/
def execSet_7_A (s : State) : Out := .next (s.bitSet .i7 .a)

end Sys2Proof.Machine
end

