-- ==== Sys2Proof/Machine/Run.lean ====
section
/-! DEFINITION. The CPU step and the device advance that follows it (spec/60_exceptions.md R300 to R308,
R370): one iteration of the driver's loop. -/

namespace Sys2Proof.Machine

/-- How the step ends once an instruction is executed: a running CPU goes on with the EI promotion and
the device advance; the two outcomes `Locked` and `Stopped` are a fault and a refusal of the step
(R12, R308, R331, R332). -/
def State.settle (t : State) (pend0 : Bool) (m : Nat) : Out :=
  match t.cpuMode with
  | .running => .next (t.finish pend0 m)
  | .locked opcode => .fault (.locked opcode)
  | .stopped => .refused .stopped

/-- Execute an instruction whose bytes have been fetched (R300 phase 3). -/
def State.execute (s : State) (i : Instr) : Out :=
  match exec i s with
  | .next t => t.settle s.imePending (mCycles i s)
  | .fault r => .fault r
  | .refused r => .refused r

/-- Phase 3: fetch one instruction and execute it (R300). -/
def State.runNext (s : State) : Out := s.afterFetch.execute s.fetched

/-- A step of a running CPU: an interrupt dispatch, a halted idle, or one instruction (R300). -/
def State.runStep (s : State) : Out :=
  if s.ime = true ∧ s.allowed ≠ 0#5 then .next (s.dispatch.advance 20)
  else if s.halted = true ∧ s.allowed = 0#5 then .next (s.advance 4)
  else s.haltExit.runNext

end Sys2Proof.Machine
end

