-- ==== Sys2Proof/Machine/Step.lean ====
section
/-! DEFINITION. The step of the machine, and where a word of the opcode table is placed so that the
next step runs it. -/

namespace Sys2Proof.Machine

/-- One step: one CPU step and the device advance by its T-cycles (R300, R370). In a mode other than
`running` no step is defined: `locked` is reported as a fault and `stopped` as a refusal (R308). -/
def step (s : State) : Host.Outcome State Fault Refusal :=
  match s.cpuMode with
  | .running => s.runStep
  | .locked opcode => .fault (.locked opcode)
  | .stopped => .refused .stopped

/-- The state with a word of spec/opcode_table.json stored where the next step fetches. Log 4. -/
def State.withFetchWord (s : State) (nbits w : Nat) : State :=
  s.pokeFetch (tableBytes nbits w).1 (tableBytes nbits w).2.1 (tableBytes nbits w).2.2

end Sys2Proof.Machine
end

