-- ==== Sys2Proof/Safety.lean ====
section
/-! DEFINITION. The terms the claims are written in: the numbers of the dispatch tables (spec/30_encoding.md
R104 to R110), what it is for bytes to be an instruction's encoding, the frames (what an instruction
leaves unchanged), the invariant of the machine, and what a safe run is. -/

namespace Sys2Proof

/-! The tables by number, written from the spec's tables and not from the decoder. -/

/-- The index of an operand in the table `r` (R104). -/
def Opnd.code : Opnd → Nat
  | .b => 0 | .c => 1 | .d => 2 | .e => 3 | .h => 4 | .l => 5 | .indHL => 6 | .a => 7

/-- The index of a pair in the table `rp` (R105). -/
def Rp.code : Rp → Nat
  | .bc => 0 | .de => 1 | .hl => 2 | .sp => 3

/-- The index of a pair in the table `rp2` (R105). -/
def Rp2.code : Rp2 → Nat
  | .bc => 0 | .de => 1 | .hl => 2 | .af => 3

/-- The index of a condition in the table `cc` (R106). -/
def Cond.code : Cond → Nat
  | .nz => 0 | .z => 1 | .nc => 2 | .c => 3

/-- The index of a rotate in the table `rot` (R110). -/
def RotOp.code : RotOp → Nat
  | .rlc => 0 | .rrc => 1 | .rl => 2 | .rr => 3 | .sla => 4 | .sra => 5 | .swap => 6 | .srl => 7

/-- `bytes` are the instruction's encoding: the encoder writes them, and the decoder reads the
instruction from them whatever follows. -/
def EncodedAs (i : Instr) (bytes : List Byte) : Prop :=
  encode i = bytes ∧ ∀ rest, decode (bytes ++ rest) = .ok (i, rest)

/-- The eleven opcodes that select no instruction (R119). -/
def undefinedOpcodes : List Byte :=
  [0xD3#8, 0xDB#8, 0xDD#8, 0xE3#8, 0xE4#8, 0xEB#8, 0xEC#8, 0xED#8, 0xF4#8, 0xFC#8, 0xFD#8]

/-- The constructors of those eleven rows. -/
def undefinedInstrs : List Instr :=
  [.undefined_D3, .undefined_DB, .undefined_DD, .undefined_E3, .undefined_E4, .undefined_EB,
   .undefined_EC, .undefined_ED, .undefined_F4, .undefined_FC, .undefined_FD]

end Sys2Proof

namespace Sys2Proof.Machine

/-! Frames. -/

/-- An instruction takes `m` M-cycles in every state, under the cycle table of R415, R416's default. -/
def Costs (i : Instr) (m : Nat) : Prop := ∀ s, s.params.cycles = .default → mCycles i s = m

/-- A conditional instruction takes `taken` M-cycles where its condition holds and `base` where it does not,
under the same table. -/
def CostsOn (i : Instr) (cc : Cond) (taken base : Nat) : Prop :=
  ∀ s, s.params.cycles = .default → mCycles i s = if s.cond cc = true then taken else base

/-- `t` differs from `s` at most in the registers of `w` and in F: every other register, SP, PC, every
control bit, the memory, the devices and the parameters are as before, and so is every bus read. -/
def RegFrame (s t : State) (w : List Opnd) : Prop :=
  t = { s with a := t.a, f := t.f, b := t.b, c := t.c, d := t.d, e := t.e, h := t.h, l := t.l } ∧
  (∀ o, o ≠ .indHL → o ∉ w → t.op8 o = s.op8 o) ∧
  ∀ x, t.busRead x = s.busRead x

/-- A bus write to `x` in `s` starts an OAM DMA (R85). -/
def dmaStarts (s : State) (x : Word) : Bool := decide (x = 0xFF46#16) && decide (s.dmaRemaining = 0)

/-- The cell of plain storage that answers the CPU at `x` in `s`: VRAM, WRAM, the WRAM an echo address
stands for, OAM, HRAM or a stub register; none where the address is refused, a device's register, the
cartridge's, or the unused gap (R66, R68, R70, R71, R74, R78, R80, R82 to R84). -/
def ramKey (s : State) (x : Word) : Option Nat :=
  if 0 < s.dmaRemaining ∧ ¬(0xFF80 ≤ x.toNat ∧ x.toNat ≤ 0xFFFE) then none
  else if 0x8000 ≤ x.toNat ∧ x.toNat ≤ 0x9FFF then
    if s.ppu.mode = .drawing then none else some x.toNat
  else if 0xC000 ≤ x.toNat ∧ x.toNat ≤ 0xDFFF then some x.toNat
  else if 0xE000 ≤ x.toNat ∧ x.toNat ≤ 0xFDFF then some (echoKey s.params.echoHigh x.toNat)
  else if 0xFE00 ≤ x.toNat ∧ x.toNat ≤ 0xFE9F then
    if s.ppu.mode = .oamScan ∨ s.ppu.mode = .drawing then none else some x.toNat
  else if 0xFF00 ≤ x.toNat ∧ x.toNat ≤ 0xFF02 then some x.toNat
  else if 0xFF10 ≤ x.toNat ∧ x.toNat ≤ 0xFF26 then some x.toNat
  else if 0xFF30 ≤ x.toNat ∧ x.toNat ≤ 0xFF3F then some x.toNat
  else if 0xFF80 ≤ x.toNat ∧ x.toNat ≤ 0xFFFE then some x.toNat
  else none

/-- `t` is `s` after the one-byte store of `v` to `x`, `BusWrite(x, v)` (R65). Every register, flag, control bit
of the CPU and every parameter is as before; and, the memory list being canonical (`State.Inv.memory`),
the cell `x` names holds `v`, every other cell holds what it held, but for the cells of OAM when the
store starts a DMA, and where `x` names a cell every address that does not name it reads as before. -/
def StoreFrame (s t : State) (x : Word) (v : Byte) : Prop :=
  t = s.busWrite x v ∧
  t = { s with
        requested := t.requested, ie := t.ie, dmaRemaining := t.dmaRemaining
        bootRomEnabled := t.bootRomEnabled, timer := t.timer, ppu := t.ppu, mem := t.mem
        cart := t.cart, freeCtr := t.freeCtr } ∧
  (s.mem.wf = true →
    (∀ k, ramKey s x = some k → t.mem.read k = v) ∧
    (∀ k, ramKey s x ≠ some k → dmaStarts s x = false → t.mem.read k = s.mem.read k) ∧
    (∀ k, dmaStarts s x = true → ¬(0xFE00 ≤ k ∧ k ≤ 0xFE9F) → t.mem.read k = s.mem.read k) ∧
    (ramKey s x ≠ none → ∀ y, ramKey s y ≠ ramKey s x → t.busRead y = s.busRead y))

/-- `t` is `s` after `Push16(w)` (R11): the high byte to SP - 1, then the low byte to SP - 2, SP down by
two; each store with its frame. -/
def Pushed (s t : State) (w : Word) : Prop :=
  t.sp = s.sp - 2#16 ∧
  ∃ u, StoreFrame { s with sp := s.sp - 1#16 } u (s.sp - 1#16) (w.extractLsb' 8 8) ∧
    StoreFrame { u with sp := s.sp - 2#16 } t (s.sp - 2#16) (w.extractLsb' 0 8)

/-! The invariant. -/

/-- The mode machine's position is one that R354 and R359 allow: with the display off HBLANK at dot 0 of
line 0; OAM_SCAN at dots 0 to 79 and DRAWING at dots 80 to 368 of lines 0 to 143; HBLANK to dot 455 of
those lines; VBLANK on lines 144 to 153. -/
def Ppu.placed (p : Ppu) : Bool :=
  (p.lcdc.getLsbD 7 || (p.mode == .hblank && p.dot == 0 && p.ly == 0)) &&
  match p.mode with
  | .oamScan => decide (p.dot < 80) && decide (p.ly < 144)
  | .drawing => decide (80 ≤ p.dot) && decide (p.dot < 369) && decide (p.ly < 144)
  | .hblank => decide (p.dot < 456) && decide (p.ly < 144)
  | .vblank => decide (p.dot < 456) && decide (144 ≤ p.ly) && decide (p.ly < 154)

/-- The invariant of the video controller. -/
structure Ppu.Inv (p : Ppu) : Prop where
  /-- R354, R359. -/
  placed : p.placed = true
  /-- `lx` is 0..160 (R351). -/
  column : p.lx ≤ 160
  /-- At most 10 sprites (R351, R358). -/
  sprites : p.sprites.length ≤ 10
  /-- The background FIFO holds at most two tile rows. -/
  fifo : p.bgFifo.length ≤ 16
  /-- The sprite FIFO holds at most one. -/
  spriteFifo : p.spriteFifo.length ≤ 8
  /-- The framebuffer is in its canonical form. -/
  picture : p.framebuffer.wf = true
  /-- Every pixel holds one of the four shades (R364). -/
  shades : ∀ k, (p.framebuffer.read k).toNat < 4

/-- No count of the table is above 6, so a step "lasts 4 to 24 T-cycles" at most (R370). -/
def boundedCycles (t : CycleTable) : Bool :=
  t.base.all (fun row => row.all fun n => decide (n ≤ 6)) && t.taken.all (fun entry => decide (entry.2 ≤ 6))
    && t.cb.all (fun row => row.all fun n => decide (n ≤ 6))

/-- The invariant of the machine: the ranges the spec gives its state, and the canonical forms. -/
structure State.Inv (s : State) : Prop where
  /-- The memory list is in its canonical form. -/
  memory : s.mem.wf = true
  /-- Every listed address is one of the 65536 of the address space (R60). -/
  space : ∀ cell ∈ s.mem, cell.1 < 0x10000
  /-- `F[3:0] = 0` (R25). -/
  flags : s.f.extractLsb' 0 4 = 0#4
  /-- A machine that steps is running (R33). -/
  running : s.cpuMode = .running
  /-- `dma_remaining` is 0..640 (R40). -/
  lockout : s.dmaRemaining ≤ 640
  /-- `reload_delay` is 0..4 (R41). -/
  reload : s.timer.reloadDelay ≤ 4
  /-- The video controller's. -/
  video : s.ppu.Inv
  /-- At a step boundary of the driver's loop the frame is not over (R370). -/
  elapsed : s.frameElapsed < 70224
  /-- The configured cycle table keeps a step within 24 T-cycles (R370). -/
  cycles : boundedCycles s.params.cycles = true

/-! Safe runs. -/

/-- `t` follows `s` by `n` steps, none of which stops. -/
def runsTo : Nat → State → State → Prop
  | 0, s, t => s = t
  | n + 1, s, t => ∃ u, step s = .next u ∧ runsTo n u t

/-- A run of `n` steps from `s` is safe: no step of it stops. -/
def SafeFor (n : Nat) (s : State) : Prop := ∃ t, runsTo n s t

end Sys2Proof.Machine
end

