-- ==== Sys2Proof/Certificates/Slice0/Obligations.lean ====
section
/-! DEFINITION. The statements for the provers, from the numbered rules of spec/: the encoding, one statement
per family of instructions (its encoding, its whole effect with everything it leaves unchanged, its
M-cycles), the dispatcher, the interrupts and the step, the timer, the video controller, reset and the
invariant. Where a state is given in full (`exec i s = .next (a record)`) the equation is the frame: what
the record does not name is as before. Names such as `StoreFrame` and `RegFrame` are Sys2Proof/Safety.lean's. -/

section

open Sys2Proof Sys2Proof.Machine

/-! Encoding. -/

/-- For every instruction a decoder can give, with every value of its operands and whatever bytes follow,
decoding its encoding gives it back (30_encoding.md R101, R108, R113 to R118). -/
def Obligations.DecodeOfEncodeIsTheInstruction : Prop :=
  ∀ (i : Instr) (rest : List Byte), i.wellFormed = true → decode (encode i ++ rest) = .ok (i, rest)

/-- Where bytes decode, the instruction is well formed and its encoding is exactly the bytes consumed: no bit
of an encoding is dropped and no word has two meanings (R118, R120). -/
def Obligations.EncodeOfDecodeIsTheBytes : Prop :=
  ∀ (bytes : List Byte) (i : Instr) (rest : List Byte),
    decode bytes = .ok (i, rest) → i.wellFormed = true ∧ encode i ++ rest = bytes

/-- Words written out from the tables of 30_encoding.md, one per family. -/
def Obligations.WordsOfTheSpecDecode : Prop :=
  decode [0x21#8, 0x34#8, 0x12#8] = .ok (.ld_HL_nn 0x1234#16, []) ∧
  decode [0x08#8, 0x00#8, 0xC1#8] = .ok (.ld_inn_SP 0xC100#16, []) ∧
  decode [0x20#8, 0x10#8] = .ok (.jr_NZ_e 0x10#8, []) ∧
  decode [0x3E#8, 0x14#8] = .ok (.ld_A_n 0x14#8, []) ∧
  decode [0x41#8] = .ok (.ld_B_C, []) ∧
  decode [0x76#8] = .ok (.halt, []) ∧
  decode [0x9C#8] = .ok (.sbc_A_H, []) ∧
  decode [0xC4#8, 0x00#8, 0x30#8] = .ok (.call_NZ_nn 0x3000#16, []) ∧
  decode [0xE0#8, 0x46#8] = .ok (.ldh_in_A 0x46#8, []) ∧
  decode [0xEF#8] = .ok (.rst_28H, []) ∧
  decode [0xDD#8] = .ok (.undefined_DD, []) ∧
  decode [0xCB#8, 0x37#8] = .ok (.swap_A, []) ∧
  decode [0xCB#8, 0x76#8] = .ok (.bit_6_iHL, []) ∧
  decode [0xCB#8, 0x9E#8] = .ok (.res_3_iHL, []) ∧
  decode [0xCB#8, 0xDF#8] = .ok (.set_3_A, [])

/-- The length of an instruction is told by byte 0 alone, by the two lists of R118; and the eleven byte-0
values of R119, and no others, decode to the rows of the undefined opcodes. -/
def Obligations.ByteZeroTellsLengthAndUndefined : Prop :=
  ∀ (b0 b1 b2 : Byte) (rest : List Byte), ∃ i : Instr,
    decode (b0 :: b1 :: b2 :: rest) = .ok (i, (b0 :: b1 :: b2 :: rest).drop (encode i).length) ∧
    (encode i).length =
      (if b0 ∈ [0x01#8, 0x11#8, 0x21#8, 0x31#8, 0x08#8, 0xC2#8, 0xCA#8, 0xD2#8, 0xDA#8, 0xC3#8, 0xC4#8,
          0xCC#8, 0xD4#8, 0xDC#8, 0xCD#8, 0xEA#8, 0xFA#8] then 3
       else if b0 ∈ [0x06#8, 0x0E#8, 0x16#8, 0x1E#8, 0x26#8, 0x2E#8, 0x36#8, 0x3E#8, 0x10#8, 0x18#8,
          0x20#8, 0x28#8, 0x30#8, 0x38#8, 0xC6#8, 0xCE#8, 0xD6#8, 0xDE#8, 0xE6#8, 0xEE#8, 0xF6#8, 0xFE#8,
          0xE0#8, 0xF0#8, 0xE8#8, 0xF8#8, 0xCB#8] then 2
       else 1) ∧
    (i ∈ undefinedInstrs ↔ b0 ∈ undefinedOpcodes)

/-- The prefix (R228, R260): in every state the row `PREFIX CB` with second byte `op2` has the outcome of the
CB-page instruction that the bytes `CB op2` decode to, and its M-cycles; and `op2 = 64*x + 8*y + z` names
the class, the rotate or bit number, and the operand (R117). -/
def Obligations.PrefixRunsTheCbPage : Prop :=
  (∀ (op2 : Byte) (s : State), ∃ i : Instr,
    EncodedAs i [0xCB#8, op2] ∧ (∃ t, exec (.prefix_CB op2) s = .next t) ∧
    exec (.prefix_CB op2) s = exec i s ∧ mCycles (.prefix_CB op2) s = mCycles i s) ∧
  (∀ (r : RotOp) (o : Opnd), EncodedAs (rotInstr r o) [0xCB#8, BitVec.ofNat 8 (8 * r.code + o.code)]) ∧
  (∀ (n : Idx) (o : Opnd),
    EncodedAs (bitInstr n o) [0xCB#8, BitVec.ofNat 8 (64 + 8 * n.val + o.code)] ∧
    EncodedAs (resInstr n o) [0xCB#8, BitVec.ofNat 8 (128 + 8 * n.val + o.code)] ∧
    EncodedAs (setInstr n o) [0xCB#8, BitVec.ofNat 8 (192 + 8 * n.val + o.code)])

/-! Block 0. -/

/-- `NOP`, the rotates of the accumulator, `CPL`, `SCF`, `CCF` (R130, R154 to R157, R159 to R161). That the four
rotates clear `fZ` whatever the result is the spec's own reading, decision D29. -/
def Obligations.NopAndAccumulatorResults : Prop :=
  (EncodedAs .nop [0x00#8] ∧ Costs .nop 1 ∧
   EncodedAs .rlca [0x07#8] ∧ Costs .rlca 1 ∧ EncodedAs .rrca [0x0F#8] ∧ Costs .rrca 1 ∧
   EncodedAs .rla [0x17#8] ∧ Costs .rla 1 ∧ EncodedAs .rra [0x1F#8] ∧ Costs .rra 1 ∧
   EncodedAs .cpl [0x2F#8] ∧ Costs .cpl 1 ∧ EncodedAs .scf [0x37#8] ∧ Costs .scf 1 ∧
   EncodedAs .ccf [0x3F#8] ∧ Costs .ccf 1) ∧
  ∀ s : State,
    exec .nop s = .next s ∧
    exec .rlca s = .next { s with
      a := s.a.extractLsb' 0 7 ++ s.a.extractLsb' 7 1, f := packFlags false false false (s.a.getLsbD 7) } ∧
    exec .rrca s = .next { s with
      a := s.a.extractLsb' 0 1 ++ s.a.extractLsb' 1 7, f := packFlags false false false (s.a.getLsbD 0) } ∧
    exec .rla s = .next { s with
      a := s.a.extractLsb' 0 7 ++ BitVec.ofBool s.fC, f := packFlags false false false (s.a.getLsbD 7) } ∧
    exec .rra s = .next { s with
      a := BitVec.ofBool s.fC ++ s.a.extractLsb' 1 7, f := packFlags false false false (s.a.getLsbD 0) } ∧
    exec .cpl s = .next { s with a := s.a ^^^ 0xFF#8, f := packFlags s.fZ true true s.fC } ∧
    exec .scf s = .next { s with f := packFlags s.fZ false false true } ∧
    exec .ccf s = .next { s with f := packFlags s.fZ false false (!s.fC) }

/-- `LD rr,nn` and `LD SP,HL` (R135, R221). -/
def Obligations.LoadPairResults : Prop :=
  (∀ (p : Rp) (nn : Word),
    EncodedAs (ldRpInstr p nn) [BitVec.ofNat 8 (0x01 + 16 * p.code), nn.extractLsb' 0 8, nn.extractLsb' 8 8] ∧
    Costs (ldRpInstr p nn) 3) ∧
  EncodedAs .ld_SP_HL [0xF9#8] ∧ Costs .ld_SP_HL 2 ∧
  ∀ (nn : Word) (s : State),
    exec (.ld_BC_nn nn) s = .next { s with b := nn.extractLsb' 8 8, c := nn.extractLsb' 0 8 } ∧
    exec (.ld_DE_nn nn) s = .next { s with d := nn.extractLsb' 8 8, e := nn.extractLsb' 0 8 } ∧
    exec (.ld_HL_nn nn) s = .next { s with h := nn.extractLsb' 8 8, l := nn.extractLsb' 0 8 } ∧
    exec (.ld_SP_nn nn) s = .next { s with sp := nn } ∧
    exec .ld_SP_HL s = .next { s with sp := s.h ++ s.l }

/-- `INC rr` and `DEC rr`: the pair moves by one modulo 65536, every other pair and all the rest of the state,
flags included, is as before (R146, R147). -/
def Obligations.IncDecPairResults : Prop :=
  ∀ (p : Rp) (s : State),
    EncodedAs (incRpInstr p) [BitVec.ofNat 8 (0x03 + 16 * p.code)] ∧ Costs (incRpInstr p) 2 ∧
    EncodedAs (decRpInstr p) [BitVec.ofNat 8 (0x0B + 16 * p.code)] ∧ Costs (decRpInstr p) 2 ∧
    (∃ t, exec (incRpInstr p) s = .next t ∧
      (t.rp p).toNat = ((s.rp p).toNat + 1) % 65536 ∧ (∀ q, q ≠ p → t.rp q = s.rp q) ∧
      t = { s with b := t.b, c := t.c, d := t.d, e := t.e, h := t.h, l := t.l, sp := t.sp }) ∧
    (∃ t, exec (decRpInstr p) s = .next t ∧
      (t.rp p).toNat = ((s.rp p).toNat + 65535) % 65536 ∧ (∀ q, q ≠ p → t.rp q = s.rp q) ∧
      t = { s with b := t.b, c := t.c, d := t.d, e := t.e, h := t.h, l := t.l, sp := t.sp })

/-- `ADD HL,rr` (R136, R137). That `fN` is cleared and `fZ` kept is the spec's own reading,
92_eei_decisions.md D29. -/
def Obligations.AddHlResults : Prop :=
  ∀ (p : Rp) (s : State),
    EncodedAs (addHlInstr p) [BitVec.ofNat 8 (0x09 + 16 * p.code)] ∧ Costs (addHlInstr p) 2 ∧
    ∃ t, exec (addHlInstr p) s = .next t ∧
      (t.h ++ t.l).toNat = (s.hl.toNat + (s.rp p).toNat) % 65536 ∧
      t = { s with
        h := t.h, l := t.l
        f := packFlags s.fZ false
          (decide (0x0FFF < s.hl.toNat % 4096 + (s.rp p).toNat % 4096))
          (decide (0xFFFF < s.hl.toNat + (s.rp p).toNat)) }

/-- `INC r`, `INC (HL)`, `DEC r`, `DEC (HL)` (R148 to R151). The register forms change the register and F
only; the memory forms are one store to the address HL, and F. -/
def Obligations.IncDecByteResults : Prop :=
  (∀ (o : Opnd), EncodedAs (inc8Instr o) [BitVec.ofNat 8 (0x04 + 8 * o.code)] ∧
    Costs (inc8Instr o) (if o = .indHL then 3 else 1) ∧
    EncodedAs (dec8Instr o) [BitVec.ofNat 8 (0x05 + 8 * o.code)] ∧
    Costs (dec8Instr o) (if o = .indHL then 3 else 1)) ∧
  (∀ (o : Opnd) (s : State), o ≠ .indHL →
    (∃ t, exec (inc8Instr o) s = .next t ∧ RegFrame s t [o] ∧
      (t.op8 o).toNat = ((s.op8 o).toNat + 1) % 256 ∧
      t.f = packFlags (decide (t.op8 o = 0#8)) false (decide ((s.op8 o).toNat % 16 = 15)) s.fC) ∧
    (∃ t, exec (dec8Instr o) s = .next t ∧ RegFrame s t [o] ∧
      (t.op8 o).toNat = ((s.op8 o).toNat + 255) % 256 ∧
      t.f = packFlags (decide (t.op8 o = 0#8)) true (decide ((s.op8 o).toNat % 16 = 0)) s.fC)) ∧
  (∀ (s : State),
    (∃ u, StoreFrame s u s.hl (s.busRead s.hl + 1#8) ∧
      exec .inc_iHL s = .next { u with
        f := packFlags (decide (s.busRead s.hl + 1#8 = 0#8)) false
          (decide ((s.busRead s.hl).toNat % 16 = 15)) s.fC }) ∧
    (∃ u, StoreFrame s u s.hl (s.busRead s.hl - 1#8) ∧
      exec .dec_iHL s = .next { u with
        f := packFlags (decide (s.busRead s.hl - 1#8 = 0#8)) true
          (decide ((s.busRead s.hl).toNat % 16 = 0)) s.fC }))

/-- `DAA` (R158): `adj` has 6 in the low digit when `fH = 1` or, after an addition, the low digit is above 9,
and 6 in the high digit when `fC = 1` or, after an addition, A is above 0x99. -/
def Obligations.DecimalAdjustResult : Prop :=
  EncodedAs .daa [0x27#8] ∧ Costs .daa 1 ∧
  ∀ s : State, ∃ (adj : Nat) (carry : Bool),
    adj = (if s.fH = true ∨ (s.fN = false ∧ 0x09 < s.a.toNat % 16) then 0x06 else 0)
      + (if carry = true then 0x60 else 0) ∧
    (carry = true ↔ s.fC = true ∨ (s.fN = false ∧ 0x99 < s.a.toNat)) ∧
    ∃ t, exec .daa s = .next t ∧
      t.a.toNat = (if s.fN = true then s.a.toNat + 256 - adj else s.a.toNat + adj) % 256 ∧
      t = { s with a := t.a, f := packFlags (decide (t.a = 0#8)) s.fN false carry }

/-- What R158 is for, "decimal-adjust A after a BCD add or subtract": for two-digit decimal numbers `x` and `y`
in BCD, `ADD A,n` and then `DAA` leave `x + y` in BCD, the hundred in `fC`; and `SUB n` and then `DAA` leave
`x - y`, the borrow in `fC`. -/
def Obligations.DaaCorrectsBcdArithmetic : Prop :=
  ∀ (x y : Nat) (s : State), x < 100 → y < 100 → s.a = BitVec.ofNat 8 (16 * (x / 10) + x % 10) →
    (∃ u t, exec (.add_A_n (BitVec.ofNat 8 (16 * (y / 10) + y % 10))) s = .next u ∧ exec .daa u = .next t ∧
      t.a = BitVec.ofNat 8 (16 * ((x + y) % 100 / 10) + (x + y) % 10) ∧ t.fC = decide (100 ≤ x + y)) ∧
    (∃ u t, exec (.sub_n (BitVec.ofNat 8 (16 * (y / 10) + y % 10))) s = .next u ∧ exec .daa u = .next t ∧
      t.a = BitVec.ofNat 8 (16 * ((x + 100 - y) % 100 / 10) + (x + 100 - y) % 10) ∧ t.fC = decide (x < y))

/-! Loads and stores. -/

/-- The loads of A from memory (R142 to R145, R214, R225, R226). -/
def Obligations.AccumulatorLoadResults : Prop :=
  EncodedAs .ld_A_iBC [0x0A#8] ∧ Costs .ld_A_iBC 2 ∧ EncodedAs .ld_A_iDE [0x1A#8] ∧ Costs .ld_A_iDE 2 ∧
  EncodedAs .ld_A_iHLp [0x2A#8] ∧ Costs .ld_A_iHLp 2 ∧ EncodedAs .ld_A_iHLm [0x3A#8] ∧ Costs .ld_A_iHLm 2 ∧
  EncodedAs .ld_A_iC [0xF2#8] ∧ Costs .ld_A_iC 2 ∧
  (∀ n, EncodedAs (.ldh_A_in n) [0xF0#8, n] ∧ Costs (.ldh_A_in n) 3) ∧
  (∀ nn : Word, EncodedAs (.ld_A_inn nn) [0xFA#8, nn.extractLsb' 0 8, nn.extractLsb' 8 8] ∧
    Costs (.ld_A_inn nn) 4) ∧
  ∀ (s : State) (n : Byte) (nn : Word),
    exec .ld_A_iBC s = .next { s with a := s.busRead (s.b ++ s.c) } ∧
    exec .ld_A_iDE s = .next { s with a := s.busRead (s.d ++ s.e) } ∧
    (∃ t, exec .ld_A_iHLp s = .next t ∧ (t.h ++ t.l).toNat = ((s.h ++ s.l).toNat + 1) % 65536 ∧
      t = { s with a := s.busRead (s.h ++ s.l), h := t.h, l := t.l }) ∧
    (∃ t, exec .ld_A_iHLm s = .next t ∧ (t.h ++ t.l).toNat = ((s.h ++ s.l).toNat + 65535) % 65536 ∧
      t = { s with a := s.busRead (s.h ++ s.l), h := t.h, l := t.l }) ∧
    exec .ld_A_iC s = .next { s with a := s.busRead (0xFF#8 ++ s.c) } ∧
    exec (.ldh_A_in n) s = .next { s with a := s.busRead (0xFF#8 ++ n) } ∧
    exec (.ld_A_inn nn) s = .next { s with a := s.busRead nn }

/-- The stores of A to memory (R138 to R141, R212, R223, R224): each is one store, with its frame, of A to the
address the rule names; the two forms with `HL+` and `HL-` then move HL by one. -/
def Obligations.AccumulatorStoreResults : Prop :=
  EncodedAs .ld_iBC_A [0x02#8] ∧ Costs .ld_iBC_A 2 ∧ EncodedAs .ld_iDE_A [0x12#8] ∧ Costs .ld_iDE_A 2 ∧
  EncodedAs .ld_iHLp_A [0x22#8] ∧ Costs .ld_iHLp_A 2 ∧ EncodedAs .ld_iHLm_A [0x32#8] ∧ Costs .ld_iHLm_A 2 ∧
  EncodedAs .ld_iC_A [0xE2#8] ∧ Costs .ld_iC_A 2 ∧
  (∀ n, EncodedAs (.ldh_in_A n) [0xE0#8, n] ∧ Costs (.ldh_in_A n) 3) ∧
  (∀ nn : Word, EncodedAs (.ld_inn_A nn) [0xEA#8, nn.extractLsb' 0 8, nn.extractLsb' 8 8] ∧
    Costs (.ld_inn_A nn) 4) ∧
  ∀ (s : State) (n : Byte) (nn : Word),
    (∃ t, exec .ld_iBC_A s = .next t ∧ StoreFrame s t (s.b ++ s.c) s.a) ∧
    (∃ t, exec .ld_iDE_A s = .next t ∧ StoreFrame s t (s.d ++ s.e) s.a) ∧
    (∃ u t, StoreFrame s u (s.h ++ s.l) s.a ∧ exec .ld_iHLp_A s = .next t ∧
      (t.h ++ t.l).toNat = ((s.h ++ s.l).toNat + 1) % 65536 ∧ t = { u with h := t.h, l := t.l }) ∧
    (∃ u t, StoreFrame s u (s.h ++ s.l) s.a ∧ exec .ld_iHLm_A s = .next t ∧
      (t.h ++ t.l).toNat = ((s.h ++ s.l).toNat + 65535) % 65536 ∧ t = { u with h := t.h, l := t.l }) ∧
    (∃ t, exec .ld_iC_A s = .next t ∧ StoreFrame s t (0xFF#8 ++ s.c) s.a) ∧
    (∃ t, exec (.ldh_in_A n) s = .next t ∧ StoreFrame s t (0xFF#8 ++ n) s.a) ∧
    (∃ t, exec (.ld_inn_A nn) s = .next t ∧ StoreFrame s t nn s.a)

/-- `LD (nn),SP` (R131): the low byte of SP to `nn`, then the high byte to the next address modulo 65536. The byte
order and the order of the two stores are the spec's decisions D2 and D5. -/
def Obligations.StoreStackPointerResult : Prop :=
  ∀ (nn : Word) (s : State),
    EncodedAs (.ld_inn_SP nn) [0x08#8, nn.extractLsb' 0 8, nn.extractLsb' 8 8] ∧ Costs (.ld_inn_SP nn) 5 ∧
    ∃ u t, exec (.ld_inn_SP nn) s = .next t ∧ StoreFrame s u nn (s.sp.extractLsb' 0 8) ∧
      StoreFrame u t (BitVec.ofNat 16 ((nn.toNat + 1) % 65536)) (s.sp.extractLsb' 8 8)

/-- `LD r,r'`, `LD r,(HL)`, `LD r,n` (R171, R172, R152): the register, and nothing else. -/
def Obligations.LoadRegisterResults : Prop :=
  (∀ (dst src : Opnd) (s : State), dst ≠ .indHL →
    EncodedAs (ldInstr dst src) [BitVec.ofNat 8 (0x40 + 8 * dst.code + src.code)] ∧
    Costs (ldInstr dst src) (if src = .indHL then 2 else 1) ∧
    ∃ t, exec (ldInstr dst src) s = .next t ∧ RegFrame s t [dst] ∧ t.f = s.f ∧
      t.op8 dst = (if src = .indHL then s.busRead (s.h ++ s.l) else s.op8 src)) ∧
  (∀ (dst : Opnd) (n : Byte) (s : State), dst ≠ .indHL →
    EncodedAs (ldImmInstr dst n) [BitVec.ofNat 8 (0x06 + 8 * dst.code), n] ∧ Costs (ldImmInstr dst n) 2 ∧
    ∃ t, exec (ldImmInstr dst n) s = .next t ∧ RegFrame s t [dst] ∧ t.f = s.f ∧ t.op8 dst = n)

/-- `LD (HL),r` and `LD (HL),n` (R174, R153): one store to the address HL, with its frame. -/
def Obligations.StoreThroughHlResults : Prop :=
  (∀ (src : Opnd) (s : State), src ≠ .indHL →
    EncodedAs (ldInstr .indHL src) [BitVec.ofNat 8 (0x70 + src.code)] ∧ Costs (ldInstr .indHL src) 2 ∧
    ∃ t, exec (ldInstr .indHL src) s = .next t ∧ StoreFrame s t (s.h ++ s.l) (s.op8 src)) ∧
  (∀ (n : Byte) (s : State),
    EncodedAs (.ld_iHL_n n) [0x36#8, n] ∧ Costs (.ld_iHL_n n) 3 ∧
    ∃ t, exec (.ld_iHL_n n) s = .next t ∧ StoreFrame s t (s.h ++ s.l) n)

/-- `HALT` (R173): it sets `halted`; only under `HALT_BUG_MODE = at_halt_only`, with `IME = 0` and an allowed
request, it arms `halt_bug` instead. The two modes are the spec's decision D8. -/
def Obligations.HaltResult : Prop :=
  EncodedAs .halt [0x76#8] ∧ Costs .halt 1 ∧
  ∀ s : State, exec .halt s = .next
    (if s.params.haltBugMode = .atHaltOnly ∧ s.ime = false ∧ s.requested &&& s.ie.extractLsb' 0 5 ≠ 0#5
     then { s with haltBug := true } else { s with halted := true })

/-! The ALU. -/

/-- `ADD A,x` and `ADC A,x` for every operand and for an immediate (R181, R184 to R187, R235, R236). -/
def Obligations.AddResults : Prop :=
  (∀ (o : Opnd),
    EncodedAs (aluInstr .add o) [BitVec.ofNat 8 (0x80 + o.code)] ∧
    Costs (aluInstr .add o) (if o = .indHL then 2 else 1) ∧
    EncodedAs (aluInstr .adc o) [BitVec.ofNat 8 (0x88 + o.code)] ∧
    Costs (aluInstr .adc o) (if o = .indHL then 2 else 1)) ∧
  (∀ n : Byte, EncodedAs (.add_A_n n) [0xC6#8, n] ∧ Costs (.add_A_n n) 2 ∧
    EncodedAs (.adc_A_n n) [0xCE#8, n] ∧ Costs (.adc_A_n n) 2) ∧
  ∀ (s : State) (i : Instr) (v : Byte) (cin : Nat),
    ((∃ o, i = aluInstr .add o ∧ v = s.op8 o ∧ cin = 0) ∨ (i = .add_A_n v ∧ cin = 0) ∨
     (∃ o, i = aluInstr .adc o ∧ v = s.op8 o ∧ cin = s.fC.toNat) ∨ (i = .adc_A_n v ∧ cin = s.fC.toNat)) →
    ∃ t, exec i s = .next t ∧ t.a.toNat = (s.a.toNat + v.toNat + cin) % 256 ∧
      t = { s with
        a := t.a
        f := packFlags (decide (t.a = 0#8)) false
          (decide (0x0F < s.a.toNat % 16 + v.toNat % 16 + cin))
          (decide (0xFF < s.a.toNat + v.toNat + cin)) }

/-- `SUB x`, `SBC A,x`, `CP x` for every operand and for an immediate; CP leaves A (R182, R188 to R191, R198,
R199, R237, R238, R242). -/
def Obligations.SubtractResults : Prop :=
  (∀ (o : Opnd),
    EncodedAs (aluInstr .sub o) [BitVec.ofNat 8 (0x90 + o.code)] ∧
    Costs (aluInstr .sub o) (if o = .indHL then 2 else 1) ∧
    EncodedAs (aluInstr .sbc o) [BitVec.ofNat 8 (0x98 + o.code)] ∧
    Costs (aluInstr .sbc o) (if o = .indHL then 2 else 1) ∧
    EncodedAs (aluInstr .cp o) [BitVec.ofNat 8 (0xB8 + o.code)] ∧
    Costs (aluInstr .cp o) (if o = .indHL then 2 else 1)) ∧
  (∀ n : Byte, EncodedAs (.sub_n n) [0xD6#8, n] ∧ Costs (.sub_n n) 2 ∧
    EncodedAs (.sbc_A_n n) [0xDE#8, n] ∧ Costs (.sbc_A_n n) 2 ∧
    EncodedAs (.cp_n n) [0xFE#8, n] ∧ Costs (.cp_n n) 2) ∧
  ∀ (s : State) (i : Instr) (v : Byte) (cin : Nat) (writes : Bool),
    ((∃ o, i = aluInstr .sub o ∧ v = s.op8 o ∧ cin = 0 ∧ writes = true) ∨
     (i = .sub_n v ∧ cin = 0 ∧ writes = true) ∨
     (∃ o, i = aluInstr .sbc o ∧ v = s.op8 o ∧ cin = s.fC.toNat ∧ writes = true) ∨
     (i = .sbc_A_n v ∧ cin = s.fC.toNat ∧ writes = true) ∨
     (∃ o, i = aluInstr .cp o ∧ v = s.op8 o ∧ cin = 0 ∧ writes = false) ∨
     (i = .cp_n v ∧ cin = 0 ∧ writes = false)) →
    ∃ (t : State) (res : Byte), exec i s = .next t ∧
      res.toNat = (s.a.toNat + 512 - v.toNat - cin) % 256 ∧
      t = { s with
        a := if writes = true then res else s.a
        f := packFlags (decide (res = 0#8)) true
          (decide (s.a.toNat % 16 < v.toNat % 16 + cin)) (decide (s.a.toNat < v.toNat + cin)) }

/-- `AND x`, `XOR x`, `OR x` for every operand and for an immediate (R183, R192 to R197, R239 to R241). -/
def Obligations.LogicResults : Prop :=
  (∀ (o : Opnd),
    EncodedAs (aluInstr .and o) [BitVec.ofNat 8 (0xA0 + o.code)] ∧
    Costs (aluInstr .and o) (if o = .indHL then 2 else 1) ∧
    EncodedAs (aluInstr .xor o) [BitVec.ofNat 8 (0xA8 + o.code)] ∧
    Costs (aluInstr .xor o) (if o = .indHL then 2 else 1) ∧
    EncodedAs (aluInstr .or o) [BitVec.ofNat 8 (0xB0 + o.code)] ∧
    Costs (aluInstr .or o) (if o = .indHL then 2 else 1)) ∧
  (∀ n : Byte, EncodedAs (.and_n n) [0xE6#8, n] ∧ Costs (.and_n n) 2 ∧
    EncodedAs (.xor_n n) [0xEE#8, n] ∧ Costs (.xor_n n) 2 ∧
    EncodedAs (.or_n n) [0xF6#8, n] ∧ Costs (.or_n n) 2) ∧
  ∀ (s : State) (i : Instr) (v : Byte),
    (((∃ o, i = aluInstr .and o ∧ v = s.op8 o) ∨ i = .and_n v) →
      exec i s = .next { s with a := s.a &&& v, f := packFlags (decide (s.a &&& v = 0#8)) false true false }) ∧
    (((∃ o, i = aluInstr .xor o ∧ v = s.op8 o) ∨ i = .xor_n v) →
      exec i s = .next { s with a := s.a ^^^ v, f := packFlags (decide (s.a ^^^ v = 0#8)) false false false }) ∧
    (((∃ o, i = aluInstr .or o ∧ v = s.op8 o) ∨ i = .or_n v) →
      exec i s = .next { s with a := s.a ||| v, f := packFlags (decide (s.a ||| v = 0#8)) false false false })

/-- The two general properties R200 quotes: for all 8-bit ALU operations the Zero flag says that the result byte
(`A - x` for CP, which R198 discards) is 0, and the Subtract flag says whether the operation subtracts. -/
def Obligations.ZeroAndSubtractFlagLaw : Prop :=
  ∀ (op : AluOp) (s t : State) (i : Instr) (v : Byte),
    (i = aluImmInstr op v ∨ ∃ o, i = aluInstr op o ∧ v = s.op8 o) → exec i s = .next t →
    (t.fZ = true ↔ (if op = .cp then s.a - v else t.a) = 0#8) ∧
    (t.fN = true ↔ op = .sub ∨ op = .sbc ∨ op = .cp)

/-! Block 3. -/

/-- `ADD SP,e` and `LD HL,SP+e` (R213, R215, R244): the sum is modulo 65536 with the displacement sign-extended,
the carries are those of the unsigned low bytes. -/
def Obligations.StackPointerDisplacementResults : Prop :=
  ∀ (e : Byte) (s : State),
    EncodedAs (.add_SP_e e) [0xE8#8, e] ∧ Costs (.add_SP_e e) 4 ∧
    EncodedAs (.ld_HL_SP_e e) [0xF8#8, e] ∧ Costs (.ld_HL_SP_e e) 3 ∧
    (∃ t, exec (.add_SP_e e) s = .next t ∧
      t.sp.toNat = (s.sp.toNat + (if e.toNat < 128 then e.toNat else e.toNat + 0xFF00)) % 65536 ∧
      t = { s with
        sp := t.sp
        f := packFlags false false (decide (0x0F < s.sp.toNat % 16 + e.toNat % 16))
          (decide (0xFF < s.sp.toNat % 256 + e.toNat)) }) ∧
    (∃ t, exec (.ld_HL_SP_e e) s = .next t ∧
      (t.h ++ t.l).toNat = (s.sp.toNat + (if e.toNat < 128 then e.toNat else e.toNat + 0xFF00)) % 65536 ∧
      t = { s with
        h := t.h, l := t.l
        f := packFlags false false (decide (0x0F < s.sp.toNat % 16 + e.toNat % 16))
          (decide (0xFF < s.sp.toNat % 256 + e.toNat)) })

/-- `PUSH rr` and `PUSH AF` (R232, R233): the high register to SP - 1, the low one to SP - 2, SP down by two;
`POP rr` and `POP AF`, which masks the low nibble of F (R216, R217). The stack's byte order and the order of the
two accesses (R11) are the spec's decisions D2 and D5. -/
def Obligations.PushAndPopResults : Prop :=
  (∀ p : Rp2,
    EncodedAs (pushInstr p) [BitVec.ofNat 8 (0xC5 + 16 * p.code)] ∧ Costs (pushInstr p) 4 ∧
    EncodedAs (popInstr p) [BitVec.ofNat 8 (0xC1 + 16 * p.code)] ∧ Costs (popInstr p) 3) ∧
  ∀ s : State,
    (∃ t, exec .push_BC s = .next t ∧ Pushed s t (s.b ++ s.c)) ∧
    (∃ t, exec .push_DE s = .next t ∧ Pushed s t (s.d ++ s.e)) ∧
    (∃ t, exec .push_HL s = .next t ∧ Pushed s t (s.h ++ s.l)) ∧
    (∃ t, exec .push_AF s = .next t ∧ Pushed s t (s.a ++ s.f)) ∧
    exec .pop_BC s = .next { s with
      b := s.busRead (s.sp + 1#16), c := s.busRead s.sp, sp := s.sp + 2#16 } ∧
    exec .pop_DE s = .next { s with
      d := s.busRead (s.sp + 1#16), e := s.busRead s.sp, sp := s.sp + 2#16 } ∧
    exec .pop_HL s = .next { s with
      h := s.busRead (s.sp + 1#16), l := s.busRead s.sp, sp := s.sp + 2#16 } ∧
    exec .pop_AF s = .next { s with
      a := s.busRead (s.sp + 1#16), f := s.busRead s.sp &&& 0xF0#8, sp := s.sp + 2#16 }

/-- `RET` and `RET cc` (R218, R211). The byte order of the popped word (R11) is the spec's decision D2. -/
def Obligations.ReturnResults : Prop :=
  EncodedAs .ret [0xC9#8] ∧ Costs .ret 4 ∧
  (∀ s : State, exec .ret s = .next { s with
    pc := s.busRead (s.sp + 1#16) ++ s.busRead s.sp, sp := s.sp + 2#16 }) ∧
  ∀ (cc : Cond) (s : State),
    EncodedAs (retCcInstr cc) [BitVec.ofNat 8 (0xC0 + 8 * cc.code)] ∧
    CostsOn (retCcInstr cc) cc 5 2 ∧
    exec (retCcInstr cc) s = .next (if s.cond cc = true then { s with
      pc := s.busRead (s.sp + 1#16) ++ s.busRead s.sp, sp := s.sp + 2#16 } else s)

/-- `RETI` (R219, R336): the return, and IME set at once. That IME is set without delay is the spec's decision
D12, the byte order of the popped word its decision D2. -/
def Obligations.ReturnFromInterruptResult : Prop :=
  EncodedAs .reti [0xD9#8] ∧ Costs .reti 4 ∧
  ∀ s : State, exec .reti s = .next { s with
    pc := s.busRead (s.sp + 1#16) ++ s.busRead s.sp, sp := s.sp + 2#16, ime := true }

/-- The jumps and the four conditions (R106, R133, R134, R220, R222, R227), a relative jump being relative to the
address after the instruction. That `exec` begins with PC there, taken or not, is the model's convention (log 3,
DEDUCED from R28); the fetch that puts it there is `StepRunsTheDecodedInstruction`'s. -/
def Obligations.JumpResults : Prop :=
  (∀ s : State, (s.cond .nz = true ↔ s.f.getLsbD 7 = false) ∧ (s.cond .z = true ↔ s.f.getLsbD 7 = true) ∧
    (s.cond .nc = true ↔ s.f.getLsbD 4 = false) ∧ (s.cond .c = true ↔ s.f.getLsbD 4 = true)) ∧
  (∀ (e : Byte) (s : State),
    EncodedAs (.jr_e e) [0x18#8, e] ∧ Costs (.jr_e e) 3 ∧
    exec (.jr_e e) s = .next { s with
      pc := BitVec.ofNat 16 (s.pc.toNat + (if e.toNat < 128 then e.toNat else e.toNat + 0xFF00)) }) ∧
  (∀ (cc : Cond) (e : Byte) (s : State),
    EncodedAs (jrCcInstr cc e) [BitVec.ofNat 8 (0x20 + 8 * cc.code), e] ∧
    CostsOn (jrCcInstr cc e) cc 3 2 ∧
    exec (jrCcInstr cc e) s = .next (if s.cond cc = true then { s with
      pc := BitVec.ofNat 16 (s.pc.toNat + (if e.toNat < 128 then e.toNat else e.toNat + 0xFF00)) } else s)) ∧
  (∀ (nn : Word) (s : State),
    EncodedAs (.jp_nn nn) [0xC3#8, nn.extractLsb' 0 8, nn.extractLsb' 8 8] ∧ Costs (.jp_nn nn) 4 ∧
    exec (.jp_nn nn) s = .next { s with pc := nn }) ∧
  (∀ (cc : Cond) (nn : Word) (s : State),
    EncodedAs (jpCcInstr cc nn) [BitVec.ofNat 8 (0xC2 + 8 * cc.code), nn.extractLsb' 0 8, nn.extractLsb' 8 8] ∧
    CostsOn (jpCcInstr cc nn) cc 4 3 ∧
    exec (jpCcInstr cc nn) s = .next (if s.cond cc = true then { s with pc := nn } else s)) ∧
  EncodedAs .jp_HL [0xE9#8] ∧ Costs .jp_HL 1 ∧
  ∀ s : State, exec .jp_HL s = .next { s with pc := s.h ++ s.l }

/-- `CALL nn`, `CALL cc,nn` and `RST t` (R234, R231, R250, R112): PC, which is past the instruction when `exec`
begins (log 3, DEDUCED from R28), is pushed, and PC is the target. The order of the push (R11) is the spec's
decisions D2 and D5. -/
def Obligations.CallAndRestartResults : Prop :=
  (∀ (nn : Word) (s : State),
    EncodedAs (.call_nn nn) [0xCD#8, nn.extractLsb' 0 8, nn.extractLsb' 8 8] ∧ Costs (.call_nn nn) 6 ∧
    ∃ u, Pushed s u s.pc ∧ exec (.call_nn nn) s = .next { u with pc := nn }) ∧
  (∀ (cc : Cond) (nn : Word) (s : State),
    EncodedAs (callCcInstr cc nn) [BitVec.ofNat 8 (0xC4 + 8 * cc.code), nn.extractLsb' 0 8, nn.extractLsb' 8 8] ∧
    CostsOn (callCcInstr cc nn) cc 6 3 ∧
    ∃ u, Pushed s u s.pc ∧
      exec (callCcInstr cc nn) s = .next (if s.cond cc = true then { u with pc := nn } else s)) ∧
  (∀ (y : Idx) (s : State),
    EncodedAs (rstInstr y) [BitVec.ofNat 8 (0xC7 + 8 * y.val)] ∧ Costs (rstInstr y) 4 ∧
    ∃ u, Pushed s u s.pc ∧ exec (rstInstr y) s = .next { u with pc := BitVec.ofNat 16 (8 * y.val) })

/-- `DI` and `EI` (R229, R230): only the enable is deferred, the spec's decision D12. -/
def Obligations.InterruptEnableResults : Prop :=
  EncodedAs .di [0xF3#8] ∧ Costs .di 1 ∧ EncodedAs .ei [0xFB#8] ∧ Costs .ei 1 ∧
  ∀ s : State,
    exec .di s = .next { s with ime := false, imePending := false } ∧
    exec .ei s = .next (if s.ime = false ∧ s.imePending = false then { s with imePending := true } else s)

/-- `STOP` and the eleven undefined opcodes (R132, R243): the instruction changes `cpu_mode` and nothing else.
The mode `locked` carries the opcode, which R331 records for the model's report. Decisions D6, D7. -/
def Obligations.StopAndUndefinedResults : Prop :=
  (∀ (pad : Byte) (s : State), EncodedAs (.stop pad) [0x10#8, pad] ∧ Costs (.stop pad) 1 ∧
    exec (.stop pad) s = .next { s with cpuMode := .stopped }) ∧
  ∀ (i : Instr) (s : State), i ∈ undefinedInstrs → ∃ opcode ∈ undefinedOpcodes,
    EncodedAs i [opcode] ∧ exec i s = .next { s with cpuMode := .locked opcode }

/-! The CB page. -/

/-- The eight rotates and shifts of a register (R261, R262, R264, R266, R268, R270, R272, R274, R276). -/
def Obligations.CbRotateRegisterResults : Prop :=
  (∀ (r : RotOp) (o : Opnd), o ≠ .indHL →
    EncodedAs (rotInstr r o) [0xCB#8, BitVec.ofNat 8 (8 * r.code + o.code)] ∧ Costs (rotInstr r o) 2) ∧
  ∀ (r : RotOp) (o : Opnd) (s : State), o ≠ .indHL → ∃ (t : State) (carry : Bool),
    exec (rotInstr r o) s = .next t ∧ RegFrame s t [o] ∧
    t.f = packFlags (decide (t.op8 o = 0#8)) false false carry ∧
    let v := s.op8 o
    match r with
    | .rlc => t.op8 o = v.extractLsb' 0 7 ++ v.extractLsb' 7 1 ∧ carry = v.getLsbD 7
    | .rrc => t.op8 o = v.extractLsb' 0 1 ++ v.extractLsb' 1 7 ∧ carry = v.getLsbD 0
    | .rl => t.op8 o = v.extractLsb' 0 7 ++ BitVec.ofBool s.fC ∧ carry = v.getLsbD 7
    | .rr => t.op8 o = BitVec.ofBool s.fC ++ v.extractLsb' 1 7 ∧ carry = v.getLsbD 0
    | .sla => t.op8 o = v.extractLsb' 0 7 ++ 0#1 ∧ carry = v.getLsbD 7
    | .sra => t.op8 o = v.extractLsb' 7 1 ++ v.extractLsb' 1 7 ∧ carry = v.getLsbD 0
    | .swap => t.op8 o = v.extractLsb' 0 4 ++ v.extractLsb' 4 4 ∧ carry = false
    | .srl => t.op8 o = 0#1 ++ v.extractLsb' 1 7 ∧ carry = v.getLsbD 0

/-- The same eight of the byte at HL (R261, R263, R265, R267, R269, R271, R273, R275, R277): one store to the
address HL, and F. -/
def Obligations.CbRotateMemoryResults : Prop :=
  (∀ (r : RotOp), EncodedAs (rotInstr r .indHL) [0xCB#8, BitVec.ofNat 8 (8 * r.code + 6)] ∧
    Costs (rotInstr r .indHL) 4) ∧
  ∀ (r : RotOp) (s : State), ∃ (u : State) (res : Byte) (carry : Bool),
    StoreFrame s u (s.h ++ s.l) res ∧
    exec (rotInstr r .indHL) s = .next { u with f := packFlags (decide (res = 0#8)) false false carry } ∧
    let v := s.busRead (s.h ++ s.l)
    match r with
    | .rlc => res = v.extractLsb' 0 7 ++ v.extractLsb' 7 1 ∧ carry = v.getLsbD 7
    | .rrc => res = v.extractLsb' 0 1 ++ v.extractLsb' 1 7 ∧ carry = v.getLsbD 0
    | .rl => res = v.extractLsb' 0 7 ++ BitVec.ofBool s.fC ∧ carry = v.getLsbD 7
    | .rr => res = BitVec.ofBool s.fC ++ v.extractLsb' 1 7 ∧ carry = v.getLsbD 0
    | .sla => res = v.extractLsb' 0 7 ++ 0#1 ∧ carry = v.getLsbD 7
    | .sra => res = v.extractLsb' 7 1 ++ v.extractLsb' 1 7 ∧ carry = v.getLsbD 0
    | .swap => res = v.extractLsb' 0 4 ++ v.extractLsb' 4 4 ∧ carry = false
    | .srl => res = 0#1 ++ v.extractLsb' 1 7 ∧ carry = v.getLsbD 0

/-- `BIT b,r` and `BIT b,(HL)` (R278, R279): nothing but F is written. -/
def Obligations.BitTestResults : Prop :=
  ∀ (n : Idx) (o : Opnd) (s : State),
    EncodedAs (bitInstr n o) [0xCB#8, BitVec.ofNat 8 (0x40 + 8 * n.val + o.code)] ∧
    Costs (bitInstr n o) (if o = .indHL then 3 else 2) ∧
    exec (bitInstr n o) s = .next { s with
      f := packFlags (!((if o = .indHL then s.busRead (s.h ++ s.l) else s.op8 o).getLsbD n.val)) false true s.fC }

/-- `RES b,r`, `RES b,(HL)`, `SET b,r`, `SET b,(HL)` (R280 to R283): one bit of the operand, no flag. -/
def Obligations.BitResetAndSetResults : Prop :=
  (∀ (n : Idx) (o : Opnd),
    EncodedAs (resInstr n o) [0xCB#8, BitVec.ofNat 8 (0x80 + 8 * n.val + o.code)] ∧
    Costs (resInstr n o) (if o = .indHL then 4 else 2) ∧
    EncodedAs (setInstr n o) [0xCB#8, BitVec.ofNat 8 (0xC0 + 8 * n.val + o.code)] ∧
    Costs (setInstr n o) (if o = .indHL then 4 else 2)) ∧
  (∀ (n : Idx) (o : Opnd) (s : State), o ≠ .indHL →
    (∃ t, exec (resInstr n o) s = .next t ∧ RegFrame s t [o] ∧ t.f = s.f ∧
      ∀ j, (t.op8 o).getLsbD j = (decide (j ≠ n.val) && (s.op8 o).getLsbD j)) ∧
    (∃ t, exec (setInstr n o) s = .next t ∧ RegFrame s t [o] ∧ t.f = s.f ∧
      ∀ j, (t.op8 o).getLsbD j = (decide (j = n.val) || (s.op8 o).getLsbD j))) ∧
  (∀ (n : Idx) (s : State), ∃ (t t' : State) (v v' : Byte),
    exec (resInstr n .indHL) s = .next t ∧ StoreFrame s t (s.h ++ s.l) v ∧
    (∀ j, v.getLsbD j = (decide (j ≠ n.val) && (s.busRead (s.h ++ s.l)).getLsbD j)) ∧
    exec (setInstr n .indHL) s = .next t' ∧ StoreFrame s t' (s.h ++ s.l) v' ∧
    (∀ j, v'.getLsbD j = (decide (j = n.val) || (s.busRead (s.h ++ s.l)).getLsbD j)))

/-! Rules over all instructions. -/

/-- "The CPU raises no synchronous exception. No instruction traps" (R330): in every state every instruction
answers a next state, the driver's count and the parameters untouched; and under the cycle table of R415 its
count is 1 to 6 M-cycles, but for the eleven undefined opcodes, whose count R243 leaves undefined (R307,
R370, R416). -/
def Obligations.EveryInstructionCompletes : Prop :=
  (∀ (i : Instr) (s : State), ∃ t, exec i s = .next t ∧ t.params = s.params ∧
    t.frameElapsed = s.frameElapsed) ∧
  ∀ (i : Instr) (s : State), s.params.cycles = .default → i ∉ undefinedInstrs →
    1 ≤ mCycles i s ∧ mCycles i s ≤ 6

/-- Who changes the control state of the CPU (R29 to R33): IME only DI and RETI (EI and the dispatch act
through the step), `ime_pending` only EI and DI, `halted` and `halt_bug` only HALT, `cpu_mode` only STOP and
the undefined opcodes; and SP only the instructions R27 lists, by byte 0. -/
def Obligations.OnlyTheseWriteControlState : Prop :=
  ∀ (i : Instr) (s t : State), exec i s = .next t →
    (t.ime ≠ s.ime → (i = .reti ∧ t.ime = true) ∨ (i = .di ∧ t.ime = false)) ∧
    (t.imePending ≠ s.imePending → (i = .ei ∧ t.imePending = true) ∨ (i = .di ∧ t.imePending = false)) ∧
    (t.halted ≠ s.halted → i = .halt ∧ t.halted = true) ∧
    (t.haltBug ≠ s.haltBug → i = .halt ∧ t.haltBug = true ∧ s.params.haltBugMode = .atHaltOnly) ∧
    (t.cpuMode ≠ s.cpuMode → i ∈ undefinedInstrs ∨ ∃ pad, i = .stop pad) ∧
    (t.sp ≠ s.sp → ∃ b ∈ (encode i).head?, b ∈ [
      0x31#8, 0x33#8, 0x3B#8, 0xE8#8, 0xF9#8,
      0xC1#8, 0xD1#8, 0xE1#8, 0xF1#8, 0xC5#8, 0xD5#8, 0xE5#8, 0xF5#8,
      0xC0#8, 0xC8#8, 0xD0#8, 0xD8#8, 0xC9#8, 0xD9#8,
      0xC4#8, 0xCC#8, 0xD4#8, 0xDC#8, 0xCD#8,
      0xC7#8, 0xCF#8, 0xD7#8, 0xDF#8, 0xE7#8, 0xEF#8, 0xF7#8, 0xFF#8])

/-- Who writes the flags (R25, R26, R201), by the decoded bytes: every instruction of the flag summary leaves
`F[3:0] = 0`, whatever was there before, and the instructions of R201's last row, all others, leave F. -/
def Obligations.OnlyTheseWriteFlags : Prop :=
  ∀ (b0 b1 b2 : Byte) (s t : State), exec (decode3 b0 b1 b2) s = .next t →
    if (0x80#8 ≤ b0 ∧ b0 < 0xC0#8) ∨ (b0 = 0xCB#8 ∧ b1 < 0x80#8) ∨
      b0 ∈ [0xC6#8, 0xCE#8, 0xD6#8, 0xDE#8, 0xE6#8, 0xEE#8, 0xF6#8, 0xFE#8,
        0x04#8, 0x0C#8, 0x14#8, 0x1C#8, 0x24#8, 0x2C#8, 0x34#8, 0x3C#8,
        0x05#8, 0x0D#8, 0x15#8, 0x1D#8, 0x25#8, 0x2D#8, 0x35#8, 0x3D#8,
        0x09#8, 0x19#8, 0x29#8, 0x39#8, 0xE8#8, 0xF8#8,
        0x07#8, 0x0F#8, 0x17#8, 0x1F#8, 0x27#8, 0x2F#8, 0x37#8, 0x3F#8, 0xF1#8]
    then t.f.extractLsb' 0 4 = 0#4 else t.f = s.f

/-! Registers and the dispatcher. -/

/-- The pair views are not separate storage, and a write through AF masks the low nibble (R21, R25). -/
def Obligations.PairViewsOfRegisters : Prop :=
  ∀ (s : State) (v : Word),
    s.rp2 .af = s.a ++ s.f ∧ s.rp2 .bc = s.b ++ s.c ∧ s.rp2 .de = s.d ++ s.e ∧ s.rp2 .hl = s.h ++ s.l ∧
    s.rp .bc = s.b ++ s.c ∧ s.rp .de = s.d ++ s.e ∧ s.rp .hl = s.h ++ s.l ∧ s.rp .sp = s.sp ∧
    s.setRp2 .bc v = { s with b := v.extractLsb' 8 8, c := v.extractLsb' 0 8 } ∧
    s.setRp2 .de v = { s with d := v.extractLsb' 8 8, e := v.extractLsb' 0 8 } ∧
    s.setRp2 .hl v = { s with h := v.extractLsb' 8 8, l := v.extractLsb' 0 8 } ∧
    s.setRp2 .af v = { s with a := v.extractLsb' 8 8, f := v.extractLsb' 4 4 ++ 0#4 } ∧
    (s.setRp2 .bc v).rp2 .bc = v ∧ (s.setRp2 .de v).rp2 .de = v ∧ (s.setRp2 .hl v).rp2 .hl = v ∧
    (s.setRp2 .af v).rp2 .af = v.extractLsb' 4 12 ++ 0#4

/-- What a CPU read of each region of the map gives when the bus is not locked out, and 0xFF when it is
(R64, R66 to R75, R78, R80 to R84). An I/O register 0xFF00 to 0xFF7F answers with `State.ioRead`, a stub with its
cell; what each other register reads is said by `StoredByteReadsBack` (the stubs again), `IoRegisterAccess`
and `VideoRegistersRoundTrip`. The spec's own decisions in it are D14 (IE's upper bits), D16 (the
boundaries), D17 (the upper echo), D20 (gating and lockout meet every CPU access), D21 (0xFFFF is locked out
too), D23 (the stubs), D24 (the boot ROM), D30 (the cartridge's functions). -/
def Obligations.BusReadByRegion : Prop :=
  ∀ (s : State) (x : Word),
    (0 < s.dmaRemaining → ¬(0xFF80 ≤ x.toNat ∧ x.toNat ≤ 0xFFFE) → s.busRead x = 0xFF#8) ∧
    (0xFF80 ≤ x.toNat → x.toNat ≤ 0xFFFE → s.busRead x = s.mem.read x.toNat) ∧
    (s.dmaRemaining = 0 →
      (∀ image, x.toNat ≤ 0x00FF → s.bootRomEnabled = true → s.params.bootRom = some image →
        x.toNat < image.length → some (s.busRead x) = image[x.toNat]?) ∧
      (∀ priv, x.toNat ≤ 0x7FFF → (s.bootRomEnabled = false ∨ 0x0100 ≤ x.toNat) →
        (s.cart = .romOnly → s.busRead x = s.mem.read x.toNat) ∧
        (s.cart = .external priv → s.busRead x = Config.cartRead priv x)) ∧
      (0x8000 ≤ x.toNat → x.toNat ≤ 0x9FFF → s.ppu.mode ≠ .drawing → s.busRead x = s.mem.read x.toNat) ∧
      (0x8000 ≤ x.toNat → x.toNat ≤ 0x9FFF → s.ppu.mode = .drawing → s.busRead x = 0xFF#8) ∧
      (∀ priv, 0xA000 ≤ x.toNat → x.toNat ≤ 0xBFFF →
        (s.cart = .romOnly → s.busRead x = 0xFF#8) ∧
        (s.cart = .external priv → s.busRead x = Config.cartReadSram priv x)) ∧
      (0xC000 ≤ x.toNat → x.toNat ≤ 0xDFFF → s.busRead x = s.mem.read x.toNat) ∧
      (0xE000 ≤ x.toNat → x.toNat ≤ 0xEFFF → s.busRead x = s.mem.read (x.toNat - 0x2000)) ∧
      (0xF000 ≤ x.toNat → x.toNat ≤ 0xFDFF → s.busRead x =
        s.mem.read (if s.params.echoHigh = .wrap then x.toNat - 0x3000 else x.toNat - 0x2000)) ∧
      (0xFE00 ≤ x.toNat → x.toNat ≤ 0xFE9F → s.ppu.mode ≠ .oamScan → s.ppu.mode ≠ .drawing →
        s.busRead x = s.mem.read x.toNat) ∧
      (0xFE00 ≤ x.toNat → x.toNat ≤ 0xFE9F → (s.ppu.mode = .oamScan ∨ s.ppu.mode = .drawing) →
        s.busRead x = 0xFF#8) ∧
      (0xFEA0 ≤ x.toNat → x.toNat ≤ 0xFEFF → s.busRead x = 0xFF#8) ∧
      (x = 0xFFFF#16 → s.busRead x = (match s.params.ieUpper with
        | .stored => s.ie
        | .ones => 0b111#3 ++ s.ie.extractLsb' 0 5
        | .zeros => 0b000#3 ++ s.ie.extractLsb' 0 5)) ∧
      (0xFF00 ≤ x.toNat → x.toNat ≤ 0xFF7F → s.busRead x = s.ioRead x.toNat) ∧
      (isStub x.toNat = true → s.busRead x = s.mem.read x.toNat))

/-- A byte stored to plain storage is what every address that names its cell then reads, and no other
address, nor anything else, changes (R68, R70, R71, R74, R78, R80, R89); the joypad's address reads its
parameter. The memory list is canonical, `State.Inv.memory`. -/
def Obligations.StoredByteReadsBack : Prop :=
  ∀ (s : State) (x : Word) (v : Byte) (k : Nat), s.mem.wf = true → ramKey s x = some k →
    (∀ y, ramKey s y = some k → y ≠ 0xFF00#16 → (s.busWrite x v).busRead y = v) ∧
    (∀ y, ramKey s y ≠ some k → (s.busWrite x v).busRead y = s.busRead y) ∧
    (s.busWrite x v).mem.wf = true ∧
    s.busWrite x v = { s with mem := (s.busWrite x v).mem }

/-- The writes the dispatcher ignores (R65, R67, R69, R72, R75, R77, R79, R82 to R84, R352): under the DMA
lockout everywhere but in HRAM, to gated VRAM and OAM, to the unused gap, to the unmapped and CGB-only I/O
addresses and LY, to the ROM and RAM of a `rom_only` cartridge. And what a write does to any other cartridge: its
private state alone changes, in a way R72 leaves to the cartridge (the free values of log 8). -/
def Obligations.IgnoredWritesChangeNothing : Prop :=
  ∀ (s : State) (x : Word) (v : Byte),
    (((0 < s.dmaRemaining ∧ ¬(0xFF80 ≤ x.toNat ∧ x.toNat ≤ 0xFFFE)) ∨
     (0x8000 ≤ x.toNat ∧ x.toNat ≤ 0x9FFF ∧ s.ppu.mode = .drawing) ∨
     (0xFE00 ≤ x.toNat ∧ x.toNat ≤ 0xFE9F ∧ (s.ppu.mode = .oamScan ∨ s.ppu.mode = .drawing)) ∨
     (0xFEA0 ≤ x.toNat ∧ x.toNat ≤ 0xFEFF) ∨
     x = 0xFF03#16 ∨ (0xFF08 ≤ x.toNat ∧ x.toNat ≤ 0xFF0E) ∨ (0xFF27 ≤ x.toNat ∧ x.toNat ≤ 0xFF2F) ∨
     x = 0xFF44#16 ∨ (0xFF4C ≤ x.toNat ∧ x.toNat ≤ 0xFF4F) ∨ (0xFF51 ≤ x.toNat ∧ x.toNat ≤ 0xFF7F) ∨
     (s.cart = .romOnly ∧ x.toNat ≤ 0x7FFF) ∨ (s.cart = .romOnly ∧ 0xA000 ≤ x.toNat ∧ x.toNat ≤ 0xBFFF)) →
    s.busWrite x v = s) ∧
    ∀ priv, s.dmaRemaining = 0 → s.cart = .external priv →
      (x.toNat ≤ 0x7FFF → s.busWrite x v = { s with cart := .external (Config.cartWrite priv x v) }) ∧
      (0xA000 ≤ x.toNat → x.toNat ≤ 0xBFFF →
        s.busWrite x v = { s with cart := .external (Config.cartWriteSram priv x v) })

/-- The I/O registers of the dispatcher, the interrupt controller and the timer, read and written with the bus
not locked out (R34, R35, R73, R76 to R79, R344 to R346, R349, R350). Decisions D14, D22 to D24, D33. -/
def Obligations.IoRegisterAccess : Prop :=
  ∀ (s : State) (v : Byte), s.dmaRemaining = 0 →
    s.busRead 0xFF00#16 = s.params.joypRead ∧
    s.busRead 0xFF04#16 = s.timer.div16.extractLsb' 8 8 ∧
    s.busRead 0xFF05#16 = s.timer.tima ∧ s.busRead 0xFF06#16 = s.timer.tma ∧
    s.busRead 0xFF07#16 = 0b11111#5 ++ s.timer.tac ∧
    s.busRead 0xFF0F#16 = 0b111#3 ++ s.requested ∧
    s.busRead 0xFF50#16 = 0xFF#8 ∧
    (∀ x : Word, x = 0xFF03#16 ∨ (0xFF08 ≤ x.toNat ∧ x.toNat ≤ 0xFF0E) ∨ (0xFF27 ≤ x.toNat ∧ x.toNat ≤ 0xFF2F) ∨
      (0xFF4C ≤ x.toNat ∧ x.toNat ≤ 0xFF7F) → s.busRead x = 0xFF#8) ∧
    (∃ (t : Timer) (irq : Bool),
      (t, irq) = (if (s.timer.tac.getLsbD 2 && s.timer.div16.getLsbD s.timer.sel) = true
        then Timer.incTima { s.timer with div16 := 0#16 } else ({ s.timer with div16 := 0#16 }, false)) ∧
      s.busWrite 0xFF04#16 v = { s with
        timer := t, requested := s.requested ||| (if irq then 0b00100#5 else 0#5) }) ∧
    s.busWrite 0xFF05#16 v = { s with timer := { s.timer with tima := v, reloadDelay := 0 } } ∧
    s.busWrite 0xFF06#16 v = { s with timer := { s.timer with tma := v } } ∧
    (∃ (t : Timer) (irq : Bool),
      (t, irq) = (if s.timer.sig = true ∧ Timer.sig { s.timer with tac := v.extractLsb' 0 3 } = false
        then Timer.incTima { s.timer with tac := v.extractLsb' 0 3 }
        else ({ s.timer with tac := v.extractLsb' 0 3 }, false)) ∧
      s.busWrite 0xFF07#16 v = { s with
        timer := t, requested := s.requested ||| (if irq then 0b00100#5 else 0#5) }) ∧
    s.busWrite 0xFF0F#16 v = { s with requested := v.extractLsb' 0 5 } ∧
    s.busWrite 0xFFFF#16 v = { s with ie := v } ∧
    s.busWrite 0xFF50#16 v = (if v = 0#8 then s else { s with bootRomEnabled := false })

/-- The video registers (R352): what each reads, and that "writing then reading" any of them but LY and the DMA
trigger returns the written value unchanged; LY is the scanline and a write to it changes nothing. -/
def Obligations.VideoRegistersRoundTrip : Prop :=
  ∀ (s : State) (v : Byte), s.dmaRemaining = 0 →
    s.busRead 0xFF40#16 = s.ppu.lcdc ∧ s.busRead 0xFF41#16 = s.ppu.stat ∧ s.busRead 0xFF42#16 = s.ppu.scy ∧
    s.busRead 0xFF43#16 = s.ppu.scx ∧ s.busRead 0xFF44#16 = BitVec.ofNat 8 s.ppu.ly ∧
    s.busRead 0xFF45#16 = s.ppu.lyc ∧ s.busRead 0xFF47#16 = s.ppu.bgp ∧ s.busRead 0xFF48#16 = s.ppu.obp0 ∧
    s.busRead 0xFF49#16 = s.ppu.obp1 ∧ s.busRead 0xFF4A#16 = s.ppu.wy ∧ s.busRead 0xFF4B#16 = s.ppu.wx ∧
    s.busWrite 0xFF44#16 v = s ∧
    ∀ x ∈ [0xFF40#16, 0xFF41#16, 0xFF42#16, 0xFF43#16, 0xFF45#16, 0xFF47#16, 0xFF48#16, 0xFF49#16,
        0xFF4A#16, 0xFF4B#16],
      (s.busWrite x v).busRead x = v ∧ (s.busWrite x v).mem = s.mem ∧
      (x ≠ 0xFF40#16 → (s.busWrite x v).ppu.mode = s.ppu.mode ∧
        (s.busWrite x v).requested = s.requested)

/-- The DMA trigger (R85): the write copies 160 bytes, read ungated, from `(v << 8) | i` into OAM at once and
starts the lockout of 640 T-cycles; nothing else changes. The byte 0xFF46 itself as a source (`v` = 0xFF, `i` =
0x46) is the free value of log 6. Decision D18. -/
def Obligations.DmaTriggerCopiesToOam : Prop :=
  ∀ (s : State) (v : Byte), s.mem.wf = true → s.dmaRemaining = 0 →
    (s.busWrite 0xFF46#16 v).dmaRemaining = 640 ∧
    (∀ i : Nat, i < 160 → ¬(v = 0xFF#8 ∧ i = 0x46) →
      (s.busWrite 0xFF46#16 v).mem.read (0xFE00 + i) = s.regionRead (v ++ BitVec.ofNat 8 i) false) ∧
    (∀ k, ¬(0xFE00 ≤ k ∧ k < 0xFE00 + 160) → (s.busWrite 0xFF46#16 v).mem.read k = s.mem.read k) ∧
    s.busWrite 0xFF46#16 v = { s with
      mem := (s.busWrite 0xFF46#16 v).mem, dmaRemaining := 640 }

/-- What `Push16` stores `Pop16` reads back, and SP is where it was, whenever the two stack bytes lie in two
cells of plain storage (R11, R61). -/
def Obligations.PopReadsWhatPushStored : Prop :=
  ∀ (s : State) (w : Word) (k k' : Nat), s.mem.wf = true → ramKey s (s.sp - 1#16) = some k →
    ramKey s (s.sp - 2#16) = some k' → k ≠ k' → s.sp - 1#16 ≠ 0xFF00#16 → s.sp - 2#16 ≠ 0xFF00#16 →
    ∃ t u, exec .push_BC { s with b := w.extractLsb' 8 8, c := w.extractLsb' 0 8 } = .next t ∧
      exec .pop_DE t = .next u ∧ u.d ++ u.e = w ∧ u.sp = s.sp

/-! The step. -/

/-- One step runs the decoded instruction: in a running machine in which no dispatch is due and that is not
halted, where the bytes at PC decode to a well-formed `i` (at `pc + 1` the byte after the opcode, or at `pc`
again when the HALT bug is armed, R304), the step is `exec i` with PC past the instruction and the HALT bug
used up, then the EI promotion, then the device advance of four times its M-cycles (R300, R306, R307, R370). -/
def Obligations.StepRunsTheDecodedInstruction : Prop :=
  ∀ (s t : State) (i : Instr) (rest : List Byte) (next : Word),
    s.cpuMode = .running → ¬(s.ime = true ∧ s.requested &&& s.ie.extractLsb' 0 5 ≠ 0#5) → s.halted = false →
    next = (if s.haltBug = true then s.pc else s.pc + 1#16) →
    decode [s.busRead s.pc, (s.bumpFree 1).busRead next, (s.bumpFree 2).busRead (next + 1#16)] = .ok (i, rest) →
    exec i { s with
        pc := next + BitVec.ofNat 16 ((encode i).length - 1), haltBug := false
        freeCtr := s.freeCtr + 3 } = .next t →
    t.cpuMode = .running →
    step s = .next ((((if s.imePending = true ∧ t.imePending = true
        then { t with ime := true, imePending := false } else t).advance
      (4 * mCycles i { s with
        pc := next + BitVec.ofNat 16 ((encode i).length - 1), haltBug := false
        freeCtr := s.freeCtr + 3 }))).bumpFree 2)

/-- Where a step stops (R12, R308, R331, R332): a running machine's step is a next state with the parameters
unchanged, or it executed STOP and is refused, or one of the eleven undefined opcodes and is a fault with that
opcode; a machine that is not running has no step. And it does stop there: where no dispatch is due and the CPU
is not halted, or leaves the halt, an opcode byte of STOP makes the step that refusal and an undefined one that
fault. Decisions D6, D7. -/
def Obligations.StepStopsOnlyOnStopAndUndefined : Prop :=
  ∀ s : State,
    (s.cpuMode = .running →
      (∃ t, step s = .next t ∧ t.cpuMode = .running ∧ t.params = s.params) ∨
      (s.busRead s.pc = 0x10#8 ∧ step s = .refused .stopped) ∨
      (s.busRead s.pc ∈ undefinedOpcodes ∧ step s = .fault (.locked (s.busRead s.pc)))) ∧
    (s.cpuMode = .running → ¬(s.ime = true ∧ s.requested &&& s.ie.extractLsb' 0 5 ≠ 0#5) →
      (s.halted = false ∨ s.requested &&& s.ie.extractLsb' 0 5 ≠ 0#5) →
      (s.busRead s.pc = 0x10#8 → step s = .refused .stopped) ∧
      (s.busRead s.pc ∈ undefinedOpcodes → step s = .fault (.locked (s.busRead s.pc)))) ∧
    (∀ opcode, s.cpuMode = .locked opcode → step s = .fault (.locked opcode)) ∧
    (s.cpuMode = .stopped → step s = .refused .stopped)

/-- Taking an interrupt (R302, R334, R335): with IME set and a source both requested and enabled, the step takes
the least such source: IME, `ime_pending` and `halted` are cleared, PC is pushed, that one request bit is
cleared after the push, PC is the vector, and the devices advance by 20 T-cycles. Decisions D11, D13. -/
def Obligations.InterruptDispatchStep : Prop :=
  ∀ s : State, s.cpuMode = .running → s.ime = true → s.requested &&& s.ie.extractLsb' 0 5 ≠ 0#5 →
    ∃ (i : Nat) (u : State), i < 5 ∧
      (s.requested.getLsbD i = true ∧ s.ie.getLsbD i = true) ∧
      (∀ j < i, ¬(s.requested.getLsbD j = true ∧ s.ie.getLsbD j = true)) ∧
      Pushed { s with ime := false, imePending := false, halted := false } u s.pc ∧
      step s = .next (State.advance { u with
        requested := u.requested &&& ~~~(BitVec.ofNat 5 (2 ^ i)), pc := BitVec.ofNat 16 (0x0040 + 8 * i) } 20)

/-- A halted CPU (R303, R305): with no allowed request a step idles for 4 T-cycles; with one and IME = 0 the
CPU leaves the halted state at no cost, arming the HALT bug under `while_halted`, and goes on as if it had
not been halted. Decisions D8, D10. -/
def Obligations.HaltedIdleAndExit : Prop :=
  ∀ s : State, s.cpuMode = .running → s.halted = true →
    (s.requested &&& s.ie.extractLsb' 0 5 = 0#5 → step s = .next (s.advance 4)) ∧
    (s.requested &&& s.ie.extractLsb' 0 5 ≠ 0#5 → s.ime = false →
      step s = step { s with
        halted := false, haltBug := s.haltBug || decide (s.params.haltBugMode = .whileHalted) })

/-- The EI delay (R306, R410): after a step that began with `ime_pending` set and IME clear, and that is not a
halted one, no enable is pending and IME is set, unless the instruction was DI, which leaves it clear; and a
step that executes EI with neither set leaves IME clear and the enable pending. Decision D12. -/
def Obligations.EiTakesEffectOneInstructionLate : Prop :=
  ∀ s t : State, s.cpuMode = .running → s.ime = false → s.halted = false → step s = .next t →
    (s.imePending = true → t.imePending = false ∧ (t.ime = true ↔ s.busRead s.pc ≠ 0xF3#8)) ∧
    (s.imePending = false → s.busRead s.pc = 0xFB#8 → t.imePending = true ∧ t.ime = false)

/-! The timer. -/

/-- `IncTima()` and the reload (R347, R348): a tick that overflows TIMA requests the interrupt and leaves 0 in it;
0 is held through the next three ticks and TMA is there after the fourth. -/
def Obligations.TimerOverflowReloadsAfterFour : Prop :=
  (∀ t : Timer, t.incTima = (if t.tima = 0xFF#8 then ({ t with tima := 0x00#8, reloadDelay := 4 }, true)
    else ({ t with tima := t.tima + 1#8 }, false))) ∧
  ∀ (t u : Timer), t.tick = (u, true) →
    u.tima = 0x00#8 ∧ u.reloadDelay = 4 ∧
    (∀ n ≤ 3, (Timer.advance n u false).1.tima = 0x00#8) ∧
    (Timer.advance 4 u false).1.tima = t.tma ∧ (Timer.advance 4 u false).2 = false

/-- The divider counts every T-cycle, and an enabled TIMA counts once in each period that TAC selects, 1024, 16,
64 or 256 T-cycles, whatever the divider's phase (R344 to R346, R348). Decision D33. -/
def Obligations.TimerCountsOncePerPeriod : Prop :=
  (∀ (n : Nat) (t : Timer), (Timer.advance n t false).1.div16.toNat = (t.div16.toNat + n) % 65536) ∧
  ∀ (t : Timer) (period : Nat), t.tac.getLsbD 2 = true → t.reloadDelay = 0 → t.tima ≠ 0xFF#8 →
    ((t.tac.extractLsb' 0 2 = 0#2 ∧ period = 1024) ∨ (t.tac.extractLsb' 0 2 = 1#2 ∧ period = 16) ∨
     (t.tac.extractLsb' 0 2 = 2#2 ∧ period = 64) ∨ (t.tac.extractLsb' 0 2 = 3#2 ∧ period = 256)) →
    (Timer.advance period t false).1.tima = t.tima + 1#8 ∧ (Timer.advance period t false).2 = false

/-! The video controller. -/

/-- Mode entry, the coincidence check, and switching the display off and on (R355 to R357, R359). Decisions D35
to D37. -/
def Obligations.ModeEntryAndDisplaySwitch : Prop :=
  ∀ (p : Ppu) (m : VideoMode) (v : Byte),
    p.enterMode m = ({ p with mode := m, stat := p.stat.extractLsb' 2 6 ++ m.number },
      BitVec.ofBool ((decide (m = .hblank) && p.stat.getLsbD 3) || (decide (m = .vblank) && p.stat.getLsbD 4) ||
        (decide (m = .oamScan) && p.stat.getLsbD 5)) ++ BitVec.ofBool (decide (m = .vblank)) |>.setWidth 5) ∧
    (VideoMode.number .hblank = 0#2 ∧ VideoMode.number .vblank = 1#2 ∧ VideoMode.number .oamScan = 2#2 ∧
      VideoMode.number .drawing = 3#2) ∧
    p.coincidence = ({ p with
        stat := p.stat.extractLsb' 3 5 ++ BitVec.ofBool (decide (p.ly = p.lyc.toNat)) ++ p.stat.extractLsb' 0 2 },
      if p.ly = p.lyc.toNat ∧ p.stat.getLsbD 6 = true then 0b00010#5 else 0#5) ∧
    (p.lcdc.getLsbD 7 = true → v.getLsbD 7 = false →
      p.writeLcdc v = ({ p with
        lcdc := v, ly := 0, dot := 0, mode := .hblank, stat := p.stat.extractLsb' 2 6 ++ 0#2 }, 0#5)) ∧
    (p.lcdc.getLsbD 7 = false → v.getLsbD 7 = true →
      ∃ (q : Ppu) (a b : BitVec 5),
        Ppu.enterMode { p with lcdc := v, ly := 0, dot := 0, winLine := 0 } .oamScan = (q, a) ∧
        q.coincidence = ((p.writeLcdc v).1, b) ∧ (p.writeLcdc v).2 = a ||| b) ∧
    (p.lcdc.getLsbD 7 = v.getLsbD 7 → p.writeLcdc v = ({ p with lcdc := v }, 0#5)) ∧
    (p.lcdc.getLsbD 7 = false → ∀ mem len n mask, Ppu.advance mem len n p mask = (p, mask))

/-- A scanline of an enabled display is 456 dots however long DRAWING lasts, for every content of memory and
every `DRAWING_LEN`: from dot 0 of line `ly` below 144, OAM_SCAN for 80 dots, then DRAWING, and after 456 dots
dot 0 of the next line, in VBLANK after line 143 with the VBlank request and in OAM_SCAN before it without one
(R354, R356). -/
def Obligations.ScanlineIs456Dots : Prop :=
  ∀ (mem : Memory) (len : Option Nat) (p : Ppu), p.lcdc.getLsbD 7 = true → p.mode = .oamScan → p.dot = 0 →
    p.ly < 144 →
    (∀ n < 80, (Ppu.advance mem len n p 0#5).1.mode = .oamScan) ∧
    (Ppu.advance mem len 80 p 0#5).1.mode = .drawing ∧
    ∃ (q : Ppu) (mask : BitVec 5), Ppu.advance mem len 456 p 0#5 = (q, mask) ∧
      q.dot = 0 ∧ q.ly = p.ly + 1 ∧ q.lcdc = p.lcdc ∧
      q.mode = (if p.ly = 143 then .vblank else .oamScan) ∧ mask.getLsbD 0 = decide (p.ly = 143)

/-- A frame of an enabled display is 70224 dots: from dot 0 of line 0 the mode machine is there again after
exactly 70224 dots, with the VBlank request made on the way (R354, R356, R370). -/
def Obligations.FrameIs70224Dots : Prop :=
  ∀ (mem : Memory) (len : Option Nat) (p : Ppu), p.lcdc.getLsbD 7 = true → p.mode = .oamScan → p.dot = 0 →
    p.ly = 0 →
    ∃ (q : Ppu) (mask : BitVec 5), Ppu.advance mem len 70224 p 0#5 = (q, mask) ∧
      q.mode = .oamScan ∧ q.dot = 0 ∧ q.ly = 0 ∧ q.winLine = 0 ∧ q.lcdc = p.lcdc ∧ mask.getLsbD 0 = true

/-- The sprite buffer (R358): the first ten entries of OAM, in table order, that pass the Y-range test, ordered
by X and then by table index. -/
def Obligations.SpriteBufferSelection : Prop :=
  ∀ (mem : Memory) (p : Ppu),
    (p.buildSprites mem).sprites.length ≤ 10 ∧
    (p.buildSprites mem).sprites.Perm
      ((((List.range 40).map (oamEntry mem)).filter fun sp =>
        decide (sp.y.toNat ≤ p.ly + 16) &&
        decide (p.ly + 16 < sp.y.toNat + (if p.lcdc.getLsbD 2 = true then 16 else 8))).take 10) ∧
    (p.buildSprites mem).sprites.Pairwise (fun s1 s2 =>
      s1.x.toNat < s2.x.toNat ∨ (s1.x.toNat = s2.x.toNat ∧ s1.index < s2.index))

/-- The compositor's choice (R364 as 90_conflicts.md C6 repairs it): the sprite pixel, when there is one and it is
not transparent, wins unless its background-priority flag is set over a non-transparent background pixel; a
palette register maps index `k` to its bits `2k+1..2k`; with LCDC bit 0 clear the background is index 0. R364 says
that of the pixel's shade; that the priority test reads index 0 there too is the model's choice, DESIGN CHOICE,
log 30. -/
def Obligations.CompositorPixelChoice : Prop :=
  ∀ (p : Ppu) (bg : BitVec 2) (sp : SpritePixel),
    (∀ (pal : Byte) (k : BitVec 2),
      (paletteShade pal k).toNat = pal.toNat / 4 ^ k.toNat % 4) ∧
    let shown := if p.lcdc.getLsbD 0 = true then bg else 0#2
    p.mix bg none = paletteShade p.bgp shown ∧
    p.mix bg (some sp) =
      (if sp.colour ≠ 0#2 ∧ ¬(sp.behind = true ∧ shown ≠ 0#2)
       then paletteShade (if sp.obp1 = true then p.obp1 else p.obp0) sp.colour
       else paletteShade p.bgp shown)

/-! Reset and the invariant. -/

/-- What reset leaves (R28, R40, R41, R44, R78, R365, R371): the values the spec gives, under both presets, for every
parameter, cartridge and ROM image; the stub registers read 0x00 where the ROM image lists ROM addresses only.
Decision D15. What the spec leaves unspecified is not mentioned: the registers of R23, OBP0 and OBP1 under
`post_boot`, the RAMs, the fetchers, the framebuffer. And the invariant holds of the machine right after reset. -/
def Obligations.ResetValuesAndInvariant : Prop :=
  State.reset.Inv ∧
  (∀ (params : Params) (cart : Cart) (rom : Memory),
    let s := State.resetWith .powerOn params cart rom
    s.pc = 0x0000#16 ∧ s.ime = false ∧ s.imePending = false ∧ s.halted = false ∧ s.haltBug = false ∧
    s.cpuMode = .running ∧ s.requested = 0#5 ∧ s.ie = 0x00#8 ∧ s.dmaRemaining = 0 ∧
    s.bootRomEnabled = params.bootRom.isSome ∧ s.f.extractLsb' 0 4 = 0#4 ∧
    s.timer = { div16 := 0#16, tima := 0#8, tma := 0#8, tac := 0#3, reloadDelay := 0 } ∧
    s.ppu.mode = .hblank ∧ s.ppu.dot = 0 ∧ s.ppu.ly = 0 ∧ s.ppu.lcdc = 0x00#8 ∧ s.ppu.stat = 0x00#8 ∧
    s.ppu.scy = 0x00#8 ∧ s.ppu.scx = 0x00#8 ∧ s.ppu.lyc = 0x00#8 ∧ s.ppu.wy = 0x00#8 ∧ s.ppu.wx = 0x00#8 ∧
    s.ppu.bgp = 0x00#8 ∧ s.ppu.obp0 = 0x00#8 ∧ s.ppu.obp1 = 0x00#8 ∧
    s.ppu.winLine = 0 ∧ s.ppu.lx = 0 ∧ s.ppu.bgFifo = [] ∧ s.ppu.spriteFifo = [] ∧ s.ppu.sprites = [] ∧
    s.frameElapsed = 0) ∧
  (∀ (params : Params) (cart : Cart) (rom : Memory),
    let s := State.resetWith .postBoot params cart rom
    s.a = 0x01#8 ∧ s.f = 0xB0#8 ∧ s.b = 0x00#8 ∧ s.c = 0x13#8 ∧ s.d = 0x00#8 ∧ s.e = 0xD8#8 ∧ s.h = 0x01#8 ∧
    s.l = 0x4D#8 ∧ s.sp = 0xFFFE#16 ∧ s.pc = 0x0100#16 ∧ s.ime = false ∧ s.imePending = false ∧
    s.halted = false ∧ s.haltBug = false ∧ s.cpuMode = .running ∧ s.requested = 0b00001#5 ∧ s.ie = 0x00#8 ∧
    s.dmaRemaining = 0 ∧ s.bootRomEnabled = false ∧
    s.timer = { div16 := 0xABCC#16, tima := 0#8, tma := 0#8, tac := 0#3, reloadDelay := 0 } ∧
    s.ppu.mode = .oamScan ∧ s.ppu.dot = 0 ∧ s.ppu.ly = 0 ∧ s.ppu.lcdc = 0x91#8 ∧ s.ppu.stat = 0x06#8 ∧
    s.ppu.scy = 0x00#8 ∧ s.ppu.scx = 0x00#8 ∧ s.ppu.lyc = 0x00#8 ∧ s.ppu.wy = 0x00#8 ∧ s.ppu.wx = 0x00#8 ∧
    s.ppu.bgp = 0xFC#8 ∧ s.ppu.winLine = 0 ∧ s.ppu.lx = 0 ∧ s.ppu.bgFifo = [] ∧ s.ppu.spriteFifo = [] ∧
    s.ppu.sprites = [] ∧ s.frameElapsed = 0) ∧
  (∀ (preset : ResetPreset) (params : Params) (cart : Cart) (rom : Memory) (x : Word),
    (∀ cell ∈ rom, cell.1 < 0x8000) → isStub x.toNat = true →
    (State.resetWith preset params cart rom).busRead x = 0x00#8)

/-- The invariant is kept by every step, from every state that has it: the memory list stays canonical and
inside the address space, `F[3:0]` stays 0, `dma_remaining`, `reload_delay`, `dot`, `ly`, `lx` and the driver's
count stay in their ranges, the mode machine stays where R354 puts it, the sprite buffer holds at most 10, every
pixel is one of four shades, no count of the configured cycle table is above 6 (R25, R40, R41, R60, R351, R354,
R358, R364, R370, R416). -/
def Obligations.EveryStepKeepsTheInvariant : Prop :=
  ∀ s t : State, s.Inv → step s = .next t → t.Inv

/-! The device advance. -/

/-- The device advance that ends a step (R86, R348, R354, R370): by the step's `c` T-cycles the video controller and
the timer each make `c` ticks, their requests are set in IF beside the ones there, the DMA countdown falls by
`c` and stops at 0, the driver's count rises by `c` and carries the excess over a frame into the next; nothing
else changes. Decisions D19, D25, D31. -/
def Obligations.DeviceAdvanceOfAStep : Prop :=
  (∀ (s : State) (c : Nat), ∃ (p : Ppu) (mask : BitVec 5) (t : Timer) (irq : Bool),
    Ppu.advance s.mem s.params.drawingLen c s.ppu 0#5 = (p, mask) ∧ Timer.advance c s.timer false = (t, irq) ∧
    s.advance c = { s with
      ppu := p, timer := t
      requested := s.requested ||| mask ||| (if irq = true then 0b00100#5 else 0#5)
      dmaRemaining := s.dmaRemaining - c
      frameElapsed := if s.frameElapsed + c < 70224 then s.frameElapsed + c else s.frameElapsed + c - 70224 }) ∧
  (∀ (mem : Memory) (len : Option Nat) (p : Ppu), Ppu.advance mem len 0 p 0#5 = (p, 0#5) ∧
    ∀ n, ∃ (p1 p2 : Ppu) (m1 m2 : BitVec 5), p.tick mem len = (p1, m1) ∧
      Ppu.advance mem len n p1 0#5 = (p2, m2) ∧ Ppu.advance mem len (n + 1) p 0#5 = (p2, m1 ||| m2)) ∧
  (∀ t : Timer, Timer.advance 0 t false = (t, false) ∧
    ∀ n, ∃ (t1 t2 : Timer) (i1 i2 : Bool), t.tick = (t1, i1) ∧
      Timer.advance n t1 false = (t2, i2) ∧ Timer.advance (n + 1) t false = (t2, i1 || i2))

end
end

