-- ==== Sys2Proof/Laws/State.lean ====
section
/-! SUPPORT. One lemma per field per update of the state, each true by `rfl`, so that no later proof
unfolds a record update. -/

namespace Sys2Proof.Machine

/-! `State.setFlags`. -/

@[simp] theorem setFlags_a (s : State) (z n h c : Bool) : (s.setFlags z n h c).a = s.a := rfl
@[simp] theorem setFlags_f (s : State) (z n h c : Bool) : (s.setFlags z n h c).f = packFlags z n h c := rfl
@[simp] theorem setFlags_b (s : State) (z n h c : Bool) : (s.setFlags z n h c).b = s.b := rfl
@[simp] theorem setFlags_c (s : State) (z n h c : Bool) : (s.setFlags z n h c).c = s.c := rfl
@[simp] theorem setFlags_d (s : State) (z n h c : Bool) : (s.setFlags z n h c).d = s.d := rfl
@[simp] theorem setFlags_e (s : State) (z n h c : Bool) : (s.setFlags z n h c).e = s.e := rfl
@[simp] theorem setFlags_h (s : State) (z n h c : Bool) : (s.setFlags z n h c).h = s.h := rfl
@[simp] theorem setFlags_l (s : State) (z n h c : Bool) : (s.setFlags z n h c).l = s.l := rfl
@[simp] theorem setFlags_sp (s : State) (z n h c : Bool) : (s.setFlags z n h c).sp = s.sp := rfl
@[simp] theorem setFlags_pc (s : State) (z n h c : Bool) : (s.setFlags z n h c).pc = s.pc := rfl
@[simp] theorem setFlags_ime (s : State) (z n h c : Bool) : (s.setFlags z n h c).ime = s.ime := rfl
@[simp] theorem setFlags_imePending (s : State) (z n h c : Bool) : (s.setFlags z n h c).imePending = s.imePending := rfl
@[simp] theorem setFlags_halted (s : State) (z n h c : Bool) : (s.setFlags z n h c).halted = s.halted := rfl
@[simp] theorem setFlags_haltBug (s : State) (z n h c : Bool) : (s.setFlags z n h c).haltBug = s.haltBug := rfl
@[simp] theorem setFlags_cpuMode (s : State) (z n h c : Bool) : (s.setFlags z n h c).cpuMode = s.cpuMode := rfl
@[simp] theorem setFlags_requested (s : State) (z n h c : Bool) : (s.setFlags z n h c).requested = s.requested := rfl
@[simp] theorem setFlags_ie (s : State) (z n h c : Bool) : (s.setFlags z n h c).ie = s.ie := rfl
@[simp] theorem setFlags_dmaRemaining (s : State) (z n h c : Bool) : (s.setFlags z n h c).dmaRemaining = s.dmaRemaining := rfl
@[simp] theorem setFlags_bootRomEnabled (s : State) (z n h c : Bool) : (s.setFlags z n h c).bootRomEnabled = s.bootRomEnabled := rfl
@[simp] theorem setFlags_timer (s : State) (z n h c : Bool) : (s.setFlags z n h c).timer = s.timer := rfl
@[simp] theorem setFlags_ppu (s : State) (z n h c : Bool) : (s.setFlags z n h c).ppu = s.ppu := rfl
@[simp] theorem setFlags_mem (s : State) (z n h c : Bool) : (s.setFlags z n h c).mem = s.mem := rfl
@[simp] theorem setFlags_cart (s : State) (z n h c : Bool) : (s.setFlags z n h c).cart = s.cart := rfl
@[simp] theorem setFlags_frameElapsed (s : State) (z n h c : Bool) : (s.setFlags z n h c).frameElapsed = s.frameElapsed := rfl
@[simp] theorem setFlags_params (s : State) (z n h c : Bool) : (s.setFlags z n h c).params = s.params := rfl
@[simp] theorem setFlags_freeCtr (s : State) (z n h c : Bool) : (s.setFlags z n h c).freeCtr = s.freeCtr := rfl

/-! `State.setResultFlags`. -/

@[simp] theorem setResultFlags_a (s : State) (r : AluResult) : (s.setResultFlags r).a = s.a := rfl
@[simp] theorem setResultFlags_f (s : State) (r : AluResult) : (s.setResultFlags r).f = packFlags r.z r.n r.h r.c := rfl
@[simp] theorem setResultFlags_b (s : State) (r : AluResult) : (s.setResultFlags r).b = s.b := rfl
@[simp] theorem setResultFlags_c (s : State) (r : AluResult) : (s.setResultFlags r).c = s.c := rfl
@[simp] theorem setResultFlags_d (s : State) (r : AluResult) : (s.setResultFlags r).d = s.d := rfl
@[simp] theorem setResultFlags_e (s : State) (r : AluResult) : (s.setResultFlags r).e = s.e := rfl
@[simp] theorem setResultFlags_h (s : State) (r : AluResult) : (s.setResultFlags r).h = s.h := rfl
@[simp] theorem setResultFlags_l (s : State) (r : AluResult) : (s.setResultFlags r).l = s.l := rfl
@[simp] theorem setResultFlags_sp (s : State) (r : AluResult) : (s.setResultFlags r).sp = s.sp := rfl
@[simp] theorem setResultFlags_pc (s : State) (r : AluResult) : (s.setResultFlags r).pc = s.pc := rfl
@[simp] theorem setResultFlags_ime (s : State) (r : AluResult) : (s.setResultFlags r).ime = s.ime := rfl
@[simp] theorem setResultFlags_imePending (s : State) (r : AluResult) : (s.setResultFlags r).imePending = s.imePending := rfl
@[simp] theorem setResultFlags_halted (s : State) (r : AluResult) : (s.setResultFlags r).halted = s.halted := rfl
@[simp] theorem setResultFlags_haltBug (s : State) (r : AluResult) : (s.setResultFlags r).haltBug = s.haltBug := rfl
@[simp] theorem setResultFlags_cpuMode (s : State) (r : AluResult) : (s.setResultFlags r).cpuMode = s.cpuMode := rfl
@[simp] theorem setResultFlags_requested (s : State) (r : AluResult) : (s.setResultFlags r).requested = s.requested := rfl
@[simp] theorem setResultFlags_ie (s : State) (r : AluResult) : (s.setResultFlags r).ie = s.ie := rfl
@[simp] theorem setResultFlags_dmaRemaining (s : State) (r : AluResult) : (s.setResultFlags r).dmaRemaining = s.dmaRemaining := rfl
@[simp] theorem setResultFlags_bootRomEnabled (s : State) (r : AluResult) : (s.setResultFlags r).bootRomEnabled = s.bootRomEnabled := rfl
@[simp] theorem setResultFlags_timer (s : State) (r : AluResult) : (s.setResultFlags r).timer = s.timer := rfl
@[simp] theorem setResultFlags_ppu (s : State) (r : AluResult) : (s.setResultFlags r).ppu = s.ppu := rfl
@[simp] theorem setResultFlags_mem (s : State) (r : AluResult) : (s.setResultFlags r).mem = s.mem := rfl
@[simp] theorem setResultFlags_cart (s : State) (r : AluResult) : (s.setResultFlags r).cart = s.cart := rfl
@[simp] theorem setResultFlags_frameElapsed (s : State) (r : AluResult) : (s.setResultFlags r).frameElapsed = s.frameElapsed := rfl
@[simp] theorem setResultFlags_params (s : State) (r : AluResult) : (s.setResultFlags r).params = s.params := rfl
@[simp] theorem setResultFlags_freeCtr (s : State) (r : AluResult) : (s.setResultFlags r).freeCtr = s.freeCtr := rfl

/-! `State.setBC`. -/

@[simp] theorem setBC_a (s : State) (v : Word) : (s.setBC v).a = s.a := rfl
@[simp] theorem setBC_f (s : State) (v : Word) : (s.setBC v).f = s.f := rfl
@[simp] theorem setBC_b (s : State) (v : Word) : (s.setBC v).b = hiByte v := rfl
@[simp] theorem setBC_c (s : State) (v : Word) : (s.setBC v).c = loByte v := rfl
@[simp] theorem setBC_d (s : State) (v : Word) : (s.setBC v).d = s.d := rfl
@[simp] theorem setBC_e (s : State) (v : Word) : (s.setBC v).e = s.e := rfl
@[simp] theorem setBC_h (s : State) (v : Word) : (s.setBC v).h = s.h := rfl
@[simp] theorem setBC_l (s : State) (v : Word) : (s.setBC v).l = s.l := rfl
@[simp] theorem setBC_sp (s : State) (v : Word) : (s.setBC v).sp = s.sp := rfl
@[simp] theorem setBC_pc (s : State) (v : Word) : (s.setBC v).pc = s.pc := rfl
@[simp] theorem setBC_ime (s : State) (v : Word) : (s.setBC v).ime = s.ime := rfl
@[simp] theorem setBC_imePending (s : State) (v : Word) : (s.setBC v).imePending = s.imePending := rfl
@[simp] theorem setBC_halted (s : State) (v : Word) : (s.setBC v).halted = s.halted := rfl
@[simp] theorem setBC_haltBug (s : State) (v : Word) : (s.setBC v).haltBug = s.haltBug := rfl
@[simp] theorem setBC_cpuMode (s : State) (v : Word) : (s.setBC v).cpuMode = s.cpuMode := rfl
@[simp] theorem setBC_requested (s : State) (v : Word) : (s.setBC v).requested = s.requested := rfl
@[simp] theorem setBC_ie (s : State) (v : Word) : (s.setBC v).ie = s.ie := rfl
@[simp] theorem setBC_dmaRemaining (s : State) (v : Word) : (s.setBC v).dmaRemaining = s.dmaRemaining := rfl
@[simp] theorem setBC_bootRomEnabled (s : State) (v : Word) : (s.setBC v).bootRomEnabled = s.bootRomEnabled := rfl
@[simp] theorem setBC_timer (s : State) (v : Word) : (s.setBC v).timer = s.timer := rfl
@[simp] theorem setBC_ppu (s : State) (v : Word) : (s.setBC v).ppu = s.ppu := rfl
@[simp] theorem setBC_mem (s : State) (v : Word) : (s.setBC v).mem = s.mem := rfl
@[simp] theorem setBC_cart (s : State) (v : Word) : (s.setBC v).cart = s.cart := rfl
@[simp] theorem setBC_frameElapsed (s : State) (v : Word) : (s.setBC v).frameElapsed = s.frameElapsed := rfl
@[simp] theorem setBC_params (s : State) (v : Word) : (s.setBC v).params = s.params := rfl
@[simp] theorem setBC_freeCtr (s : State) (v : Word) : (s.setBC v).freeCtr = s.freeCtr := rfl

/-! `State.setDE`. -/

@[simp] theorem setDE_a (s : State) (v : Word) : (s.setDE v).a = s.a := rfl
@[simp] theorem setDE_f (s : State) (v : Word) : (s.setDE v).f = s.f := rfl
@[simp] theorem setDE_b (s : State) (v : Word) : (s.setDE v).b = s.b := rfl
@[simp] theorem setDE_c (s : State) (v : Word) : (s.setDE v).c = s.c := rfl
@[simp] theorem setDE_d (s : State) (v : Word) : (s.setDE v).d = hiByte v := rfl
@[simp] theorem setDE_e (s : State) (v : Word) : (s.setDE v).e = loByte v := rfl
@[simp] theorem setDE_h (s : State) (v : Word) : (s.setDE v).h = s.h := rfl
@[simp] theorem setDE_l (s : State) (v : Word) : (s.setDE v).l = s.l := rfl
@[simp] theorem setDE_sp (s : State) (v : Word) : (s.setDE v).sp = s.sp := rfl
@[simp] theorem setDE_pc (s : State) (v : Word) : (s.setDE v).pc = s.pc := rfl
@[simp] theorem setDE_ime (s : State) (v : Word) : (s.setDE v).ime = s.ime := rfl
@[simp] theorem setDE_imePending (s : State) (v : Word) : (s.setDE v).imePending = s.imePending := rfl
@[simp] theorem setDE_halted (s : State) (v : Word) : (s.setDE v).halted = s.halted := rfl
@[simp] theorem setDE_haltBug (s : State) (v : Word) : (s.setDE v).haltBug = s.haltBug := rfl
@[simp] theorem setDE_cpuMode (s : State) (v : Word) : (s.setDE v).cpuMode = s.cpuMode := rfl
@[simp] theorem setDE_requested (s : State) (v : Word) : (s.setDE v).requested = s.requested := rfl
@[simp] theorem setDE_ie (s : State) (v : Word) : (s.setDE v).ie = s.ie := rfl
@[simp] theorem setDE_dmaRemaining (s : State) (v : Word) : (s.setDE v).dmaRemaining = s.dmaRemaining := rfl
@[simp] theorem setDE_bootRomEnabled (s : State) (v : Word) : (s.setDE v).bootRomEnabled = s.bootRomEnabled := rfl
@[simp] theorem setDE_timer (s : State) (v : Word) : (s.setDE v).timer = s.timer := rfl
@[simp] theorem setDE_ppu (s : State) (v : Word) : (s.setDE v).ppu = s.ppu := rfl
@[simp] theorem setDE_mem (s : State) (v : Word) : (s.setDE v).mem = s.mem := rfl
@[simp] theorem setDE_cart (s : State) (v : Word) : (s.setDE v).cart = s.cart := rfl
@[simp] theorem setDE_frameElapsed (s : State) (v : Word) : (s.setDE v).frameElapsed = s.frameElapsed := rfl
@[simp] theorem setDE_params (s : State) (v : Word) : (s.setDE v).params = s.params := rfl
@[simp] theorem setDE_freeCtr (s : State) (v : Word) : (s.setDE v).freeCtr = s.freeCtr := rfl

/-! `State.setHL`. -/

@[simp] theorem setHL_a (s : State) (v : Word) : (s.setHL v).a = s.a := rfl
@[simp] theorem setHL_f (s : State) (v : Word) : (s.setHL v).f = s.f := rfl
@[simp] theorem setHL_b (s : State) (v : Word) : (s.setHL v).b = s.b := rfl
@[simp] theorem setHL_c (s : State) (v : Word) : (s.setHL v).c = s.c := rfl
@[simp] theorem setHL_d (s : State) (v : Word) : (s.setHL v).d = s.d := rfl
@[simp] theorem setHL_e (s : State) (v : Word) : (s.setHL v).e = s.e := rfl
@[simp] theorem setHL_h (s : State) (v : Word) : (s.setHL v).h = hiByte v := rfl
@[simp] theorem setHL_l (s : State) (v : Word) : (s.setHL v).l = loByte v := rfl
@[simp] theorem setHL_sp (s : State) (v : Word) : (s.setHL v).sp = s.sp := rfl
@[simp] theorem setHL_pc (s : State) (v : Word) : (s.setHL v).pc = s.pc := rfl
@[simp] theorem setHL_ime (s : State) (v : Word) : (s.setHL v).ime = s.ime := rfl
@[simp] theorem setHL_imePending (s : State) (v : Word) : (s.setHL v).imePending = s.imePending := rfl
@[simp] theorem setHL_halted (s : State) (v : Word) : (s.setHL v).halted = s.halted := rfl
@[simp] theorem setHL_haltBug (s : State) (v : Word) : (s.setHL v).haltBug = s.haltBug := rfl
@[simp] theorem setHL_cpuMode (s : State) (v : Word) : (s.setHL v).cpuMode = s.cpuMode := rfl
@[simp] theorem setHL_requested (s : State) (v : Word) : (s.setHL v).requested = s.requested := rfl
@[simp] theorem setHL_ie (s : State) (v : Word) : (s.setHL v).ie = s.ie := rfl
@[simp] theorem setHL_dmaRemaining (s : State) (v : Word) : (s.setHL v).dmaRemaining = s.dmaRemaining := rfl
@[simp] theorem setHL_bootRomEnabled (s : State) (v : Word) : (s.setHL v).bootRomEnabled = s.bootRomEnabled := rfl
@[simp] theorem setHL_timer (s : State) (v : Word) : (s.setHL v).timer = s.timer := rfl
@[simp] theorem setHL_ppu (s : State) (v : Word) : (s.setHL v).ppu = s.ppu := rfl
@[simp] theorem setHL_mem (s : State) (v : Word) : (s.setHL v).mem = s.mem := rfl
@[simp] theorem setHL_cart (s : State) (v : Word) : (s.setHL v).cart = s.cart := rfl
@[simp] theorem setHL_frameElapsed (s : State) (v : Word) : (s.setHL v).frameElapsed = s.frameElapsed := rfl
@[simp] theorem setHL_params (s : State) (v : Word) : (s.setHL v).params = s.params := rfl
@[simp] theorem setHL_freeCtr (s : State) (v : Word) : (s.setHL v).freeCtr = s.freeCtr := rfl

/-! `State.setAF`. -/

@[simp] theorem setAF_a (s : State) (v : Word) : (s.setAF v).a = hiByte v := rfl
@[simp] theorem setAF_f (s : State) (v : Word) : (s.setAF v).f = loByte v &&& 0xF0#8 := rfl
@[simp] theorem setAF_b (s : State) (v : Word) : (s.setAF v).b = s.b := rfl
@[simp] theorem setAF_c (s : State) (v : Word) : (s.setAF v).c = s.c := rfl
@[simp] theorem setAF_d (s : State) (v : Word) : (s.setAF v).d = s.d := rfl
@[simp] theorem setAF_e (s : State) (v : Word) : (s.setAF v).e = s.e := rfl
@[simp] theorem setAF_h (s : State) (v : Word) : (s.setAF v).h = s.h := rfl
@[simp] theorem setAF_l (s : State) (v : Word) : (s.setAF v).l = s.l := rfl
@[simp] theorem setAF_sp (s : State) (v : Word) : (s.setAF v).sp = s.sp := rfl
@[simp] theorem setAF_pc (s : State) (v : Word) : (s.setAF v).pc = s.pc := rfl
@[simp] theorem setAF_ime (s : State) (v : Word) : (s.setAF v).ime = s.ime := rfl
@[simp] theorem setAF_imePending (s : State) (v : Word) : (s.setAF v).imePending = s.imePending := rfl
@[simp] theorem setAF_halted (s : State) (v : Word) : (s.setAF v).halted = s.halted := rfl
@[simp] theorem setAF_haltBug (s : State) (v : Word) : (s.setAF v).haltBug = s.haltBug := rfl
@[simp] theorem setAF_cpuMode (s : State) (v : Word) : (s.setAF v).cpuMode = s.cpuMode := rfl
@[simp] theorem setAF_requested (s : State) (v : Word) : (s.setAF v).requested = s.requested := rfl
@[simp] theorem setAF_ie (s : State) (v : Word) : (s.setAF v).ie = s.ie := rfl
@[simp] theorem setAF_dmaRemaining (s : State) (v : Word) : (s.setAF v).dmaRemaining = s.dmaRemaining := rfl
@[simp] theorem setAF_bootRomEnabled (s : State) (v : Word) : (s.setAF v).bootRomEnabled = s.bootRomEnabled := rfl
@[simp] theorem setAF_timer (s : State) (v : Word) : (s.setAF v).timer = s.timer := rfl
@[simp] theorem setAF_ppu (s : State) (v : Word) : (s.setAF v).ppu = s.ppu := rfl
@[simp] theorem setAF_mem (s : State) (v : Word) : (s.setAF v).mem = s.mem := rfl
@[simp] theorem setAF_cart (s : State) (v : Word) : (s.setAF v).cart = s.cart := rfl
@[simp] theorem setAF_frameElapsed (s : State) (v : Word) : (s.setAF v).frameElapsed = s.frameElapsed := rfl
@[simp] theorem setAF_params (s : State) (v : Word) : (s.setAF v).params = s.params := rfl
@[simp] theorem setAF_freeCtr (s : State) (v : Word) : (s.setAF v).freeCtr = s.freeCtr := rfl

/-! `State.store`. -/

@[simp] theorem store_a (s : State) (k : Nat) (v : Byte) : (s.store k v).a = s.a := rfl
@[simp] theorem store_f (s : State) (k : Nat) (v : Byte) : (s.store k v).f = s.f := rfl
@[simp] theorem store_b (s : State) (k : Nat) (v : Byte) : (s.store k v).b = s.b := rfl
@[simp] theorem store_c (s : State) (k : Nat) (v : Byte) : (s.store k v).c = s.c := rfl
@[simp] theorem store_d (s : State) (k : Nat) (v : Byte) : (s.store k v).d = s.d := rfl
@[simp] theorem store_e (s : State) (k : Nat) (v : Byte) : (s.store k v).e = s.e := rfl
@[simp] theorem store_h (s : State) (k : Nat) (v : Byte) : (s.store k v).h = s.h := rfl
@[simp] theorem store_l (s : State) (k : Nat) (v : Byte) : (s.store k v).l = s.l := rfl
@[simp] theorem store_sp (s : State) (k : Nat) (v : Byte) : (s.store k v).sp = s.sp := rfl
@[simp] theorem store_pc (s : State) (k : Nat) (v : Byte) : (s.store k v).pc = s.pc := rfl
@[simp] theorem store_ime (s : State) (k : Nat) (v : Byte) : (s.store k v).ime = s.ime := rfl
@[simp] theorem store_imePending (s : State) (k : Nat) (v : Byte) : (s.store k v).imePending = s.imePending := rfl
@[simp] theorem store_halted (s : State) (k : Nat) (v : Byte) : (s.store k v).halted = s.halted := rfl
@[simp] theorem store_haltBug (s : State) (k : Nat) (v : Byte) : (s.store k v).haltBug = s.haltBug := rfl
@[simp] theorem store_cpuMode (s : State) (k : Nat) (v : Byte) : (s.store k v).cpuMode = s.cpuMode := rfl
@[simp] theorem store_requested (s : State) (k : Nat) (v : Byte) : (s.store k v).requested = s.requested := rfl
@[simp] theorem store_ie (s : State) (k : Nat) (v : Byte) : (s.store k v).ie = s.ie := rfl
@[simp] theorem store_dmaRemaining (s : State) (k : Nat) (v : Byte) : (s.store k v).dmaRemaining = s.dmaRemaining := rfl
@[simp] theorem store_bootRomEnabled (s : State) (k : Nat) (v : Byte) : (s.store k v).bootRomEnabled = s.bootRomEnabled := rfl
@[simp] theorem store_timer (s : State) (k : Nat) (v : Byte) : (s.store k v).timer = s.timer := rfl
@[simp] theorem store_ppu (s : State) (k : Nat) (v : Byte) : (s.store k v).ppu = s.ppu := rfl
@[simp] theorem store_mem (s : State) (k : Nat) (v : Byte) : (s.store k v).mem = s.mem.write k v := rfl
@[simp] theorem store_cart (s : State) (k : Nat) (v : Byte) : (s.store k v).cart = s.cart := rfl
@[simp] theorem store_frameElapsed (s : State) (k : Nat) (v : Byte) : (s.store k v).frameElapsed = s.frameElapsed := rfl
@[simp] theorem store_params (s : State) (k : Nat) (v : Byte) : (s.store k v).params = s.params := rfl
@[simp] theorem store_freeCtr (s : State) (k : Nat) (v : Byte) : (s.store k v).freeCtr = s.freeCtr := rfl

/-! `State.request`. -/

@[simp] theorem request_a (s : State) (m : BitVec 5) : (s.request m).a = s.a := rfl
@[simp] theorem request_f (s : State) (m : BitVec 5) : (s.request m).f = s.f := rfl
@[simp] theorem request_b (s : State) (m : BitVec 5) : (s.request m).b = s.b := rfl
@[simp] theorem request_c (s : State) (m : BitVec 5) : (s.request m).c = s.c := rfl
@[simp] theorem request_d (s : State) (m : BitVec 5) : (s.request m).d = s.d := rfl
@[simp] theorem request_e (s : State) (m : BitVec 5) : (s.request m).e = s.e := rfl
@[simp] theorem request_h (s : State) (m : BitVec 5) : (s.request m).h = s.h := rfl
@[simp] theorem request_l (s : State) (m : BitVec 5) : (s.request m).l = s.l := rfl
@[simp] theorem request_sp (s : State) (m : BitVec 5) : (s.request m).sp = s.sp := rfl
@[simp] theorem request_pc (s : State) (m : BitVec 5) : (s.request m).pc = s.pc := rfl
@[simp] theorem request_ime (s : State) (m : BitVec 5) : (s.request m).ime = s.ime := rfl
@[simp] theorem request_imePending (s : State) (m : BitVec 5) : (s.request m).imePending = s.imePending := rfl
@[simp] theorem request_halted (s : State) (m : BitVec 5) : (s.request m).halted = s.halted := rfl
@[simp] theorem request_haltBug (s : State) (m : BitVec 5) : (s.request m).haltBug = s.haltBug := rfl
@[simp] theorem request_cpuMode (s : State) (m : BitVec 5) : (s.request m).cpuMode = s.cpuMode := rfl
@[simp] theorem request_requested (s : State) (m : BitVec 5) : (s.request m).requested = s.requested ||| m := rfl
@[simp] theorem request_ie (s : State) (m : BitVec 5) : (s.request m).ie = s.ie := rfl
@[simp] theorem request_dmaRemaining (s : State) (m : BitVec 5) : (s.request m).dmaRemaining = s.dmaRemaining := rfl
@[simp] theorem request_bootRomEnabled (s : State) (m : BitVec 5) : (s.request m).bootRomEnabled = s.bootRomEnabled := rfl
@[simp] theorem request_timer (s : State) (m : BitVec 5) : (s.request m).timer = s.timer := rfl
@[simp] theorem request_ppu (s : State) (m : BitVec 5) : (s.request m).ppu = s.ppu := rfl
@[simp] theorem request_mem (s : State) (m : BitVec 5) : (s.request m).mem = s.mem := rfl
@[simp] theorem request_cart (s : State) (m : BitVec 5) : (s.request m).cart = s.cart := rfl
@[simp] theorem request_frameElapsed (s : State) (m : BitVec 5) : (s.request m).frameElapsed = s.frameElapsed := rfl
@[simp] theorem request_params (s : State) (m : BitVec 5) : (s.request m).params = s.params := rfl
@[simp] theorem request_freeCtr (s : State) (m : BitVec 5) : (s.request m).freeCtr = s.freeCtr := rfl

/-! `State.clearRequest`. -/

@[simp] theorem clearRequest_a (s : State) (i : Nat) : (s.clearRequest i).a = s.a := rfl
@[simp] theorem clearRequest_f (s : State) (i : Nat) : (s.clearRequest i).f = s.f := rfl
@[simp] theorem clearRequest_b (s : State) (i : Nat) : (s.clearRequest i).b = s.b := rfl
@[simp] theorem clearRequest_c (s : State) (i : Nat) : (s.clearRequest i).c = s.c := rfl
@[simp] theorem clearRequest_d (s : State) (i : Nat) : (s.clearRequest i).d = s.d := rfl
@[simp] theorem clearRequest_e (s : State) (i : Nat) : (s.clearRequest i).e = s.e := rfl
@[simp] theorem clearRequest_h (s : State) (i : Nat) : (s.clearRequest i).h = s.h := rfl
@[simp] theorem clearRequest_l (s : State) (i : Nat) : (s.clearRequest i).l = s.l := rfl
@[simp] theorem clearRequest_sp (s : State) (i : Nat) : (s.clearRequest i).sp = s.sp := rfl
@[simp] theorem clearRequest_pc (s : State) (i : Nat) : (s.clearRequest i).pc = s.pc := rfl
@[simp] theorem clearRequest_ime (s : State) (i : Nat) : (s.clearRequest i).ime = s.ime := rfl
@[simp] theorem clearRequest_imePending (s : State) (i : Nat) : (s.clearRequest i).imePending = s.imePending := rfl
@[simp] theorem clearRequest_halted (s : State) (i : Nat) : (s.clearRequest i).halted = s.halted := rfl
@[simp] theorem clearRequest_haltBug (s : State) (i : Nat) : (s.clearRequest i).haltBug = s.haltBug := rfl
@[simp] theorem clearRequest_cpuMode (s : State) (i : Nat) : (s.clearRequest i).cpuMode = s.cpuMode := rfl
@[simp] theorem clearRequest_requested (s : State) (i : Nat) : (s.clearRequest i).requested = s.requested &&& ~~~(BitVec.twoPow 5 i) := rfl
@[simp] theorem clearRequest_ie (s : State) (i : Nat) : (s.clearRequest i).ie = s.ie := rfl
@[simp] theorem clearRequest_dmaRemaining (s : State) (i : Nat) : (s.clearRequest i).dmaRemaining = s.dmaRemaining := rfl
@[simp] theorem clearRequest_bootRomEnabled (s : State) (i : Nat) : (s.clearRequest i).bootRomEnabled = s.bootRomEnabled := rfl
@[simp] theorem clearRequest_timer (s : State) (i : Nat) : (s.clearRequest i).timer = s.timer := rfl
@[simp] theorem clearRequest_ppu (s : State) (i : Nat) : (s.clearRequest i).ppu = s.ppu := rfl
@[simp] theorem clearRequest_mem (s : State) (i : Nat) : (s.clearRequest i).mem = s.mem := rfl
@[simp] theorem clearRequest_cart (s : State) (i : Nat) : (s.clearRequest i).cart = s.cart := rfl
@[simp] theorem clearRequest_frameElapsed (s : State) (i : Nat) : (s.clearRequest i).frameElapsed = s.frameElapsed := rfl
@[simp] theorem clearRequest_params (s : State) (i : Nat) : (s.clearRequest i).params = s.params := rfl
@[simp] theorem clearRequest_freeCtr (s : State) (i : Nat) : (s.clearRequest i).freeCtr = s.freeCtr := rfl

/-! `State.bumpFree`. -/

@[simp] theorem bumpFree_a (s : State) (k : Nat) : (s.bumpFree k).a = s.a := rfl
@[simp] theorem bumpFree_f (s : State) (k : Nat) : (s.bumpFree k).f = s.f := rfl
@[simp] theorem bumpFree_b (s : State) (k : Nat) : (s.bumpFree k).b = s.b := rfl
@[simp] theorem bumpFree_c (s : State) (k : Nat) : (s.bumpFree k).c = s.c := rfl
@[simp] theorem bumpFree_d (s : State) (k : Nat) : (s.bumpFree k).d = s.d := rfl
@[simp] theorem bumpFree_e (s : State) (k : Nat) : (s.bumpFree k).e = s.e := rfl
@[simp] theorem bumpFree_h (s : State) (k : Nat) : (s.bumpFree k).h = s.h := rfl
@[simp] theorem bumpFree_l (s : State) (k : Nat) : (s.bumpFree k).l = s.l := rfl
@[simp] theorem bumpFree_sp (s : State) (k : Nat) : (s.bumpFree k).sp = s.sp := rfl
@[simp] theorem bumpFree_pc (s : State) (k : Nat) : (s.bumpFree k).pc = s.pc := rfl
@[simp] theorem bumpFree_ime (s : State) (k : Nat) : (s.bumpFree k).ime = s.ime := rfl
@[simp] theorem bumpFree_imePending (s : State) (k : Nat) : (s.bumpFree k).imePending = s.imePending := rfl
@[simp] theorem bumpFree_halted (s : State) (k : Nat) : (s.bumpFree k).halted = s.halted := rfl
@[simp] theorem bumpFree_haltBug (s : State) (k : Nat) : (s.bumpFree k).haltBug = s.haltBug := rfl
@[simp] theorem bumpFree_cpuMode (s : State) (k : Nat) : (s.bumpFree k).cpuMode = s.cpuMode := rfl
@[simp] theorem bumpFree_requested (s : State) (k : Nat) : (s.bumpFree k).requested = s.requested := rfl
@[simp] theorem bumpFree_ie (s : State) (k : Nat) : (s.bumpFree k).ie = s.ie := rfl
@[simp] theorem bumpFree_dmaRemaining (s : State) (k : Nat) : (s.bumpFree k).dmaRemaining = s.dmaRemaining := rfl
@[simp] theorem bumpFree_bootRomEnabled (s : State) (k : Nat) : (s.bumpFree k).bootRomEnabled = s.bootRomEnabled := rfl
@[simp] theorem bumpFree_timer (s : State) (k : Nat) : (s.bumpFree k).timer = s.timer := rfl
@[simp] theorem bumpFree_ppu (s : State) (k : Nat) : (s.bumpFree k).ppu = s.ppu := rfl
@[simp] theorem bumpFree_mem (s : State) (k : Nat) : (s.bumpFree k).mem = s.mem := rfl
@[simp] theorem bumpFree_cart (s : State) (k : Nat) : (s.bumpFree k).cart = s.cart := rfl
@[simp] theorem bumpFree_frameElapsed (s : State) (k : Nat) : (s.bumpFree k).frameElapsed = s.frameElapsed := rfl
@[simp] theorem bumpFree_params (s : State) (k : Nat) : (s.bumpFree k).params = s.params := rfl
@[simp] theorem bumpFree_freeCtr (s : State) (k : Nat) : (s.bumpFree k).freeCtr = s.freeCtr + k := rfl

/-! `State.withTimer`. -/

@[simp] theorem withTimer_a (s : State) (r : Timer × Bool) : (s.withTimer r).a = s.a := rfl
@[simp] theorem withTimer_f (s : State) (r : Timer × Bool) : (s.withTimer r).f = s.f := rfl
@[simp] theorem withTimer_b (s : State) (r : Timer × Bool) : (s.withTimer r).b = s.b := rfl
@[simp] theorem withTimer_c (s : State) (r : Timer × Bool) : (s.withTimer r).c = s.c := rfl
@[simp] theorem withTimer_d (s : State) (r : Timer × Bool) : (s.withTimer r).d = s.d := rfl
@[simp] theorem withTimer_e (s : State) (r : Timer × Bool) : (s.withTimer r).e = s.e := rfl
@[simp] theorem withTimer_h (s : State) (r : Timer × Bool) : (s.withTimer r).h = s.h := rfl
@[simp] theorem withTimer_l (s : State) (r : Timer × Bool) : (s.withTimer r).l = s.l := rfl
@[simp] theorem withTimer_sp (s : State) (r : Timer × Bool) : (s.withTimer r).sp = s.sp := rfl
@[simp] theorem withTimer_pc (s : State) (r : Timer × Bool) : (s.withTimer r).pc = s.pc := rfl
@[simp] theorem withTimer_ime (s : State) (r : Timer × Bool) : (s.withTimer r).ime = s.ime := rfl
@[simp] theorem withTimer_imePending (s : State) (r : Timer × Bool) : (s.withTimer r).imePending = s.imePending := rfl
@[simp] theorem withTimer_halted (s : State) (r : Timer × Bool) : (s.withTimer r).halted = s.halted := rfl
@[simp] theorem withTimer_haltBug (s : State) (r : Timer × Bool) : (s.withTimer r).haltBug = s.haltBug := rfl
@[simp] theorem withTimer_cpuMode (s : State) (r : Timer × Bool) : (s.withTimer r).cpuMode = s.cpuMode := rfl
@[simp] theorem withTimer_requested (s : State) (r : Timer × Bool) : (s.withTimer r).requested = s.requested ||| timerMask r.2 := rfl
@[simp] theorem withTimer_ie (s : State) (r : Timer × Bool) : (s.withTimer r).ie = s.ie := rfl
@[simp] theorem withTimer_dmaRemaining (s : State) (r : Timer × Bool) : (s.withTimer r).dmaRemaining = s.dmaRemaining := rfl
@[simp] theorem withTimer_bootRomEnabled (s : State) (r : Timer × Bool) : (s.withTimer r).bootRomEnabled = s.bootRomEnabled := rfl
@[simp] theorem withTimer_timer (s : State) (r : Timer × Bool) : (s.withTimer r).timer = r.1 := rfl
@[simp] theorem withTimer_ppu (s : State) (r : Timer × Bool) : (s.withTimer r).ppu = s.ppu := rfl
@[simp] theorem withTimer_mem (s : State) (r : Timer × Bool) : (s.withTimer r).mem = s.mem := rfl
@[simp] theorem withTimer_cart (s : State) (r : Timer × Bool) : (s.withTimer r).cart = s.cart := rfl
@[simp] theorem withTimer_frameElapsed (s : State) (r : Timer × Bool) : (s.withTimer r).frameElapsed = s.frameElapsed := rfl
@[simp] theorem withTimer_params (s : State) (r : Timer × Bool) : (s.withTimer r).params = s.params := rfl
@[simp] theorem withTimer_freeCtr (s : State) (r : Timer × Bool) : (s.withTimer r).freeCtr = s.freeCtr := rfl

/-! `State.withPpu`. -/

@[simp] theorem withPpu_a (s : State) (r : Ppu × BitVec 5) : (s.withPpu r).a = s.a := rfl
@[simp] theorem withPpu_f (s : State) (r : Ppu × BitVec 5) : (s.withPpu r).f = s.f := rfl
@[simp] theorem withPpu_b (s : State) (r : Ppu × BitVec 5) : (s.withPpu r).b = s.b := rfl
@[simp] theorem withPpu_c (s : State) (r : Ppu × BitVec 5) : (s.withPpu r).c = s.c := rfl
@[simp] theorem withPpu_d (s : State) (r : Ppu × BitVec 5) : (s.withPpu r).d = s.d := rfl
@[simp] theorem withPpu_e (s : State) (r : Ppu × BitVec 5) : (s.withPpu r).e = s.e := rfl
@[simp] theorem withPpu_h (s : State) (r : Ppu × BitVec 5) : (s.withPpu r).h = s.h := rfl
@[simp] theorem withPpu_l (s : State) (r : Ppu × BitVec 5) : (s.withPpu r).l = s.l := rfl
@[simp] theorem withPpu_sp (s : State) (r : Ppu × BitVec 5) : (s.withPpu r).sp = s.sp := rfl
@[simp] theorem withPpu_pc (s : State) (r : Ppu × BitVec 5) : (s.withPpu r).pc = s.pc := rfl
@[simp] theorem withPpu_ime (s : State) (r : Ppu × BitVec 5) : (s.withPpu r).ime = s.ime := rfl
@[simp] theorem withPpu_imePending (s : State) (r : Ppu × BitVec 5) : (s.withPpu r).imePending = s.imePending := rfl
@[simp] theorem withPpu_halted (s : State) (r : Ppu × BitVec 5) : (s.withPpu r).halted = s.halted := rfl
@[simp] theorem withPpu_haltBug (s : State) (r : Ppu × BitVec 5) : (s.withPpu r).haltBug = s.haltBug := rfl
@[simp] theorem withPpu_cpuMode (s : State) (r : Ppu × BitVec 5) : (s.withPpu r).cpuMode = s.cpuMode := rfl
@[simp] theorem withPpu_requested (s : State) (r : Ppu × BitVec 5) : (s.withPpu r).requested = s.requested ||| r.2 := rfl
@[simp] theorem withPpu_ie (s : State) (r : Ppu × BitVec 5) : (s.withPpu r).ie = s.ie := rfl
@[simp] theorem withPpu_dmaRemaining (s : State) (r : Ppu × BitVec 5) : (s.withPpu r).dmaRemaining = s.dmaRemaining := rfl
@[simp] theorem withPpu_bootRomEnabled (s : State) (r : Ppu × BitVec 5) : (s.withPpu r).bootRomEnabled = s.bootRomEnabled := rfl
@[simp] theorem withPpu_timer (s : State) (r : Ppu × BitVec 5) : (s.withPpu r).timer = s.timer := rfl
@[simp] theorem withPpu_ppu (s : State) (r : Ppu × BitVec 5) : (s.withPpu r).ppu = r.1 := rfl
@[simp] theorem withPpu_mem (s : State) (r : Ppu × BitVec 5) : (s.withPpu r).mem = s.mem := rfl
@[simp] theorem withPpu_cart (s : State) (r : Ppu × BitVec 5) : (s.withPpu r).cart = s.cart := rfl
@[simp] theorem withPpu_frameElapsed (s : State) (r : Ppu × BitVec 5) : (s.withPpu r).frameElapsed = s.frameElapsed := rfl
@[simp] theorem withPpu_params (s : State) (r : Ppu × BitVec 5) : (s.withPpu r).params = s.params := rfl
@[simp] theorem withPpu_freeCtr (s : State) (r : Ppu × BitVec 5) : (s.withPpu r).freeCtr = s.freeCtr := rfl

/-! `State.jump`. -/

@[simp] theorem jump_a (s : State) (v : Word) : (s.jump v).a = s.a := rfl
@[simp] theorem jump_f (s : State) (v : Word) : (s.jump v).f = s.f := rfl
@[simp] theorem jump_b (s : State) (v : Word) : (s.jump v).b = s.b := rfl
@[simp] theorem jump_c (s : State) (v : Word) : (s.jump v).c = s.c := rfl
@[simp] theorem jump_d (s : State) (v : Word) : (s.jump v).d = s.d := rfl
@[simp] theorem jump_e (s : State) (v : Word) : (s.jump v).e = s.e := rfl
@[simp] theorem jump_h (s : State) (v : Word) : (s.jump v).h = s.h := rfl
@[simp] theorem jump_l (s : State) (v : Word) : (s.jump v).l = s.l := rfl
@[simp] theorem jump_sp (s : State) (v : Word) : (s.jump v).sp = s.sp := rfl
@[simp] theorem jump_pc (s : State) (v : Word) : (s.jump v).pc = v := rfl
@[simp] theorem jump_ime (s : State) (v : Word) : (s.jump v).ime = s.ime := rfl
@[simp] theorem jump_imePending (s : State) (v : Word) : (s.jump v).imePending = s.imePending := rfl
@[simp] theorem jump_halted (s : State) (v : Word) : (s.jump v).halted = s.halted := rfl
@[simp] theorem jump_haltBug (s : State) (v : Word) : (s.jump v).haltBug = s.haltBug := rfl
@[simp] theorem jump_cpuMode (s : State) (v : Word) : (s.jump v).cpuMode = s.cpuMode := rfl
@[simp] theorem jump_requested (s : State) (v : Word) : (s.jump v).requested = s.requested := rfl
@[simp] theorem jump_ie (s : State) (v : Word) : (s.jump v).ie = s.ie := rfl
@[simp] theorem jump_dmaRemaining (s : State) (v : Word) : (s.jump v).dmaRemaining = s.dmaRemaining := rfl
@[simp] theorem jump_bootRomEnabled (s : State) (v : Word) : (s.jump v).bootRomEnabled = s.bootRomEnabled := rfl
@[simp] theorem jump_timer (s : State) (v : Word) : (s.jump v).timer = s.timer := rfl
@[simp] theorem jump_ppu (s : State) (v : Word) : (s.jump v).ppu = s.ppu := rfl
@[simp] theorem jump_mem (s : State) (v : Word) : (s.jump v).mem = s.mem := rfl
@[simp] theorem jump_cart (s : State) (v : Word) : (s.jump v).cart = s.cart := rfl
@[simp] theorem jump_frameElapsed (s : State) (v : Word) : (s.jump v).frameElapsed = s.frameElapsed := rfl
@[simp] theorem jump_params (s : State) (v : Word) : (s.jump v).params = s.params := rfl
@[simp] theorem jump_freeCtr (s : State) (v : Word) : (s.jump v).freeCtr = s.freeCtr := rfl

/-! `State.jumpRel`. -/

@[simp] theorem jumpRel_a (s : State) (v : Byte) : (s.jumpRel v).a = s.a := rfl
@[simp] theorem jumpRel_f (s : State) (v : Byte) : (s.jumpRel v).f = s.f := rfl
@[simp] theorem jumpRel_b (s : State) (v : Byte) : (s.jumpRel v).b = s.b := rfl
@[simp] theorem jumpRel_c (s : State) (v : Byte) : (s.jumpRel v).c = s.c := rfl
@[simp] theorem jumpRel_d (s : State) (v : Byte) : (s.jumpRel v).d = s.d := rfl
@[simp] theorem jumpRel_e (s : State) (v : Byte) : (s.jumpRel v).e = s.e := rfl
@[simp] theorem jumpRel_h (s : State) (v : Byte) : (s.jumpRel v).h = s.h := rfl
@[simp] theorem jumpRel_l (s : State) (v : Byte) : (s.jumpRel v).l = s.l := rfl
@[simp] theorem jumpRel_sp (s : State) (v : Byte) : (s.jumpRel v).sp = s.sp := rfl
@[simp] theorem jumpRel_pc (s : State) (v : Byte) : (s.jumpRel v).pc = s.pc + sext16 v := rfl
@[simp] theorem jumpRel_ime (s : State) (v : Byte) : (s.jumpRel v).ime = s.ime := rfl
@[simp] theorem jumpRel_imePending (s : State) (v : Byte) : (s.jumpRel v).imePending = s.imePending := rfl
@[simp] theorem jumpRel_halted (s : State) (v : Byte) : (s.jumpRel v).halted = s.halted := rfl
@[simp] theorem jumpRel_haltBug (s : State) (v : Byte) : (s.jumpRel v).haltBug = s.haltBug := rfl
@[simp] theorem jumpRel_cpuMode (s : State) (v : Byte) : (s.jumpRel v).cpuMode = s.cpuMode := rfl
@[simp] theorem jumpRel_requested (s : State) (v : Byte) : (s.jumpRel v).requested = s.requested := rfl
@[simp] theorem jumpRel_ie (s : State) (v : Byte) : (s.jumpRel v).ie = s.ie := rfl
@[simp] theorem jumpRel_dmaRemaining (s : State) (v : Byte) : (s.jumpRel v).dmaRemaining = s.dmaRemaining := rfl
@[simp] theorem jumpRel_bootRomEnabled (s : State) (v : Byte) : (s.jumpRel v).bootRomEnabled = s.bootRomEnabled := rfl
@[simp] theorem jumpRel_timer (s : State) (v : Byte) : (s.jumpRel v).timer = s.timer := rfl
@[simp] theorem jumpRel_ppu (s : State) (v : Byte) : (s.jumpRel v).ppu = s.ppu := rfl
@[simp] theorem jumpRel_mem (s : State) (v : Byte) : (s.jumpRel v).mem = s.mem := rfl
@[simp] theorem jumpRel_cart (s : State) (v : Byte) : (s.jumpRel v).cart = s.cart := rfl
@[simp] theorem jumpRel_frameElapsed (s : State) (v : Byte) : (s.jumpRel v).frameElapsed = s.frameElapsed := rfl
@[simp] theorem jumpRel_params (s : State) (v : Byte) : (s.jumpRel v).params = s.params := rfl
@[simp] theorem jumpRel_freeCtr (s : State) (v : Byte) : (s.jumpRel v).freeCtr = s.freeCtr := rfl

/-! `State.lock`. -/

@[simp] theorem lock_a (s : State) (op : Byte) : (s.lock op).a = s.a := rfl
@[simp] theorem lock_f (s : State) (op : Byte) : (s.lock op).f = s.f := rfl
@[simp] theorem lock_b (s : State) (op : Byte) : (s.lock op).b = s.b := rfl
@[simp] theorem lock_c (s : State) (op : Byte) : (s.lock op).c = s.c := rfl
@[simp] theorem lock_d (s : State) (op : Byte) : (s.lock op).d = s.d := rfl
@[simp] theorem lock_e (s : State) (op : Byte) : (s.lock op).e = s.e := rfl
@[simp] theorem lock_h (s : State) (op : Byte) : (s.lock op).h = s.h := rfl
@[simp] theorem lock_l (s : State) (op : Byte) : (s.lock op).l = s.l := rfl
@[simp] theorem lock_sp (s : State) (op : Byte) : (s.lock op).sp = s.sp := rfl
@[simp] theorem lock_pc (s : State) (op : Byte) : (s.lock op).pc = s.pc := rfl
@[simp] theorem lock_ime (s : State) (op : Byte) : (s.lock op).ime = s.ime := rfl
@[simp] theorem lock_imePending (s : State) (op : Byte) : (s.lock op).imePending = s.imePending := rfl
@[simp] theorem lock_halted (s : State) (op : Byte) : (s.lock op).halted = s.halted := rfl
@[simp] theorem lock_haltBug (s : State) (op : Byte) : (s.lock op).haltBug = s.haltBug := rfl
@[simp] theorem lock_cpuMode (s : State) (op : Byte) : (s.lock op).cpuMode = .locked op := rfl
@[simp] theorem lock_requested (s : State) (op : Byte) : (s.lock op).requested = s.requested := rfl
@[simp] theorem lock_ie (s : State) (op : Byte) : (s.lock op).ie = s.ie := rfl
@[simp] theorem lock_dmaRemaining (s : State) (op : Byte) : (s.lock op).dmaRemaining = s.dmaRemaining := rfl
@[simp] theorem lock_bootRomEnabled (s : State) (op : Byte) : (s.lock op).bootRomEnabled = s.bootRomEnabled := rfl
@[simp] theorem lock_timer (s : State) (op : Byte) : (s.lock op).timer = s.timer := rfl
@[simp] theorem lock_ppu (s : State) (op : Byte) : (s.lock op).ppu = s.ppu := rfl
@[simp] theorem lock_mem (s : State) (op : Byte) : (s.lock op).mem = s.mem := rfl
@[simp] theorem lock_cart (s : State) (op : Byte) : (s.lock op).cart = s.cart := rfl
@[simp] theorem lock_frameElapsed (s : State) (op : Byte) : (s.lock op).frameElapsed = s.frameElapsed := rfl
@[simp] theorem lock_params (s : State) (op : Byte) : (s.lock op).params = s.params := rfl
@[simp] theorem lock_freeCtr (s : State) (op : Byte) : (s.lock op).freeCtr = s.freeCtr := rfl

/-! `State.dropTop`. -/

@[simp] theorem dropTop_a (s : State) : s.dropTop.a = s.a := rfl
@[simp] theorem dropTop_f (s : State) : s.dropTop.f = s.f := rfl
@[simp] theorem dropTop_b (s : State) : s.dropTop.b = s.b := rfl
@[simp] theorem dropTop_c (s : State) : s.dropTop.c = s.c := rfl
@[simp] theorem dropTop_d (s : State) : s.dropTop.d = s.d := rfl
@[simp] theorem dropTop_e (s : State) : s.dropTop.e = s.e := rfl
@[simp] theorem dropTop_h (s : State) : s.dropTop.h = s.h := rfl
@[simp] theorem dropTop_l (s : State) : s.dropTop.l = s.l := rfl
@[simp] theorem dropTop_sp (s : State) : s.dropTop.sp = s.sp + 2#16 := rfl
@[simp] theorem dropTop_pc (s : State) : s.dropTop.pc = s.pc := rfl
@[simp] theorem dropTop_ime (s : State) : s.dropTop.ime = s.ime := rfl
@[simp] theorem dropTop_imePending (s : State) : s.dropTop.imePending = s.imePending := rfl
@[simp] theorem dropTop_halted (s : State) : s.dropTop.halted = s.halted := rfl
@[simp] theorem dropTop_haltBug (s : State) : s.dropTop.haltBug = s.haltBug := rfl
@[simp] theorem dropTop_cpuMode (s : State) : s.dropTop.cpuMode = s.cpuMode := rfl
@[simp] theorem dropTop_requested (s : State) : s.dropTop.requested = s.requested := rfl
@[simp] theorem dropTop_ie (s : State) : s.dropTop.ie = s.ie := rfl
@[simp] theorem dropTop_dmaRemaining (s : State) : s.dropTop.dmaRemaining = s.dmaRemaining := rfl
@[simp] theorem dropTop_bootRomEnabled (s : State) : s.dropTop.bootRomEnabled = s.bootRomEnabled := rfl
@[simp] theorem dropTop_timer (s : State) : s.dropTop.timer = s.timer := rfl
@[simp] theorem dropTop_ppu (s : State) : s.dropTop.ppu = s.ppu := rfl
@[simp] theorem dropTop_mem (s : State) : s.dropTop.mem = s.mem := rfl
@[simp] theorem dropTop_cart (s : State) : s.dropTop.cart = s.cart := rfl
@[simp] theorem dropTop_frameElapsed (s : State) : s.dropTop.frameElapsed = s.frameElapsed := rfl
@[simp] theorem dropTop_params (s : State) : s.dropTop.params = s.params := rfl
@[simp] theorem dropTop_freeCtr (s : State) : s.dropTop.freeCtr = s.freeCtr := rfl

/-! `State.returnPc`. -/

@[simp] theorem returnPc_a (s : State) : s.returnPc.a = s.a := rfl
@[simp] theorem returnPc_f (s : State) : s.returnPc.f = s.f := rfl
@[simp] theorem returnPc_b (s : State) : s.returnPc.b = s.b := rfl
@[simp] theorem returnPc_c (s : State) : s.returnPc.c = s.c := rfl
@[simp] theorem returnPc_d (s : State) : s.returnPc.d = s.d := rfl
@[simp] theorem returnPc_e (s : State) : s.returnPc.e = s.e := rfl
@[simp] theorem returnPc_h (s : State) : s.returnPc.h = s.h := rfl
@[simp] theorem returnPc_l (s : State) : s.returnPc.l = s.l := rfl
@[simp] theorem returnPc_sp (s : State) : s.returnPc.sp = s.sp + 2#16 := rfl
@[simp] theorem returnPc_pc (s : State) : s.returnPc.pc = s.stackTop := rfl
@[simp] theorem returnPc_ime (s : State) : s.returnPc.ime = s.ime := rfl
@[simp] theorem returnPc_imePending (s : State) : s.returnPc.imePending = s.imePending := rfl
@[simp] theorem returnPc_halted (s : State) : s.returnPc.halted = s.halted := rfl
@[simp] theorem returnPc_haltBug (s : State) : s.returnPc.haltBug = s.haltBug := rfl
@[simp] theorem returnPc_cpuMode (s : State) : s.returnPc.cpuMode = s.cpuMode := rfl
@[simp] theorem returnPc_requested (s : State) : s.returnPc.requested = s.requested := rfl
@[simp] theorem returnPc_ie (s : State) : s.returnPc.ie = s.ie := rfl
@[simp] theorem returnPc_dmaRemaining (s : State) : s.returnPc.dmaRemaining = s.dmaRemaining := rfl
@[simp] theorem returnPc_bootRomEnabled (s : State) : s.returnPc.bootRomEnabled = s.bootRomEnabled := rfl
@[simp] theorem returnPc_timer (s : State) : s.returnPc.timer = s.timer := rfl
@[simp] theorem returnPc_ppu (s : State) : s.returnPc.ppu = s.ppu := rfl
@[simp] theorem returnPc_mem (s : State) : s.returnPc.mem = s.mem := rfl
@[simp] theorem returnPc_cart (s : State) : s.returnPc.cart = s.cart := rfl
@[simp] theorem returnPc_frameElapsed (s : State) : s.returnPc.frameElapsed = s.frameElapsed := rfl
@[simp] theorem returnPc_params (s : State) : s.returnPc.params = s.params := rfl
@[simp] theorem returnPc_freeCtr (s : State) : s.returnPc.freeCtr = s.freeCtr := rfl

/-- The flags byte of four flags has a low nibble of 0 (R25). -/
@[simp] theorem packFlags_low (z n h c : Bool) : (packFlags z n h c).extractLsb' 0 4 = 0#4 := by
  cases z <;> cases n <;> cases h <;> cases c <;> rfl

/-- The low nibble of the byte POP AF leaves in F (R25). -/
@[simp] theorem masked_low (v : Byte) : (v &&& 0xF0#8).extractLsb' 0 4 = 0#4 := by
  ext i hi
  have : i = 0 ∨ i = 1 ∨ i = 2 ∨ i = 3 := by omega
  rcases this with rfl | rfl | rfl | rfl <;> simp

@[simp] theorem packFlags_bit7 (z n h c : Bool) : (packFlags z n h c).getLsbD 7 = z := by
  revert z n h c; decide

@[simp] theorem setFlags_fZ (s : State) (z n h c : Bool) : (s.setFlags z n h c).fZ = z :=
  packFlags_bit7 z n h c

@[simp] theorem packFlags_bit6 (z n h c : Bool) : (packFlags z n h c).getLsbD 6 = n := by
  revert z n h c; decide

@[simp] theorem setFlags_fN (s : State) (z n h c : Bool) : (s.setFlags z n h c).fN = n :=
  packFlags_bit6 z n h c

@[simp] theorem packFlags_bit5 (z n h c : Bool) : (packFlags z n h c).getLsbD 5 = h := by
  revert z n h c; decide

@[simp] theorem setFlags_fH (s : State) (z n h c : Bool) : (s.setFlags z n h c).fH = h :=
  packFlags_bit5 z n h c

@[simp] theorem packFlags_bit4 (z n h c : Bool) : (packFlags z n h c).getLsbD 4 = c := by
  revert z n h c; decide

@[simp] theorem setFlags_fC (s : State) (z n h c : Bool) : (s.setFlags z n h c).fC = c :=
  packFlags_bit4 z n h c

end Sys2Proof.Machine
end

