-- ==== Sys2Proof/Laws/Bus.lean ====
section
/-! SUPPORT. What the dispatcher's two operations can do: one lemma for a write to plain storage, one for
the memory after any write, one for the CPU state after any write, one for reads, and the frame of a
store that the claims use. -/

namespace Sys2Proof.Machine

theorem isStub_iff (n : Nat) : isStub n = true ↔
    n = 0xFF01 ∨ n = 0xFF02 ∨ (0xFF10 ≤ n ∧ n ≤ 0xFF26) ∨ (0xFF30 ≤ n ∧ n ≤ 0xFF3F) := by
  simp only [isStub, Bool.or_eq_true, Bool.and_eq_true, decide_eq_true_eq]; omega

theorem isHram_iff (x : Word) : isHram x = true ↔ 0xFF80 ≤ x.toNat ∧ x.toNat ≤ 0xFFFE := by
  simp only [isHram, Bool.and_eq_true, decide_eq_true_eq]

theorem locked_iff (s : State) (x : Word) :
    s.locked x = true ↔ 0 < s.dmaRemaining ∧ ¬(0xFF80 ≤ x.toNat ∧ x.toNat ≤ 0xFFFE) := by
  simp only [State.locked, Bool.and_eq_true, decide_eq_true_eq, Bool.not_eq_true', ← isHram_iff,
    Bool.not_eq_true]

theorem vramGated_iff (s : State) : s.vramGated = true ↔ s.ppu.mode = .drawing := by
  simp only [State.vramGated]; cases s.ppu.mode <;> decide

theorem oamGated_iff (s : State) : s.oamGated = true ↔ s.ppu.mode = .oamScan ∨ s.ppu.mode = .drawing := by
  simp only [State.oamGated]; cases s.ppu.mode <;> decide

/-- A write to an address that names a cell stores to the cell and does nothing else. -/
theorem busWrite_of_ramKey {s : State} {x : Word} {k : Nat} (v : Byte) (h : ramKey s x = some k) :
    s.busWrite x v = s.store k v := by
  have hx : x.toNat < 65536 := x.isLt
  -- the I/O addresses that are plain storage
  have io : 0xFF00 ≤ x.toNat → x.toNat < 0xFF80 → (isStub x.toNat = true ∨ x.toNat = 0xFF00) →
      s.regionWrite x v = s.store x.toNat v := by
    intro h1 h2 hs
    rw [State.regionWrite]
    repeat rw [if_neg (by omega)]
    rw [if_pos (by omega), State.ioWrite, if_pos (by rcases hs with hs | hs <;> simp [hs])]
  unfold ramKey at h
  split at h
  · cases h
  · next hl =>
    rw [State.busWrite, if_neg (by rw [locked_iff]; exact hl)]
    split at h
    · split at h
      · cases h
      · next hg =>
        cases h
        rw [State.regionWrite, if_neg (by omega), if_pos (by omega), if_neg (by rw [vramGated_iff]; exact hg)]
    · repeat' split at h
      all_goals cases h
      all_goals first
        | exact io (by omega) (by omega) (by rw [isStub_iff]; omega)
        | (rw [State.regionWrite]
           repeat rw [if_neg (by omega)]
           rw [if_pos (by omega)])
      next hg => exact if_neg (by rw [oamGated_iff]; exact hg)

/-! Reads. -/

/-- A read of an address that names a cell, other than the joypad's, gives the cell's byte. -/
theorem busRead_of_ramKey {s : State} {x : Word} {k : Nat} (h : ramKey s x = some k) (hk : k ≠ 0xFF00) :
    s.busRead x = s.mem.read k := by
  have hx : x.toNat < 65536 := x.isLt
  have io : 0xFF00 ≤ x.toNat → x.toNat < 0xFF80 → isStub x.toNat = true →
      s.regionRead x true = s.mem.read x.toNat := by
    intro h1 h2 hs
    rw [State.regionRead]
    repeat rw [if_neg (by omega)]
    rw [if_pos (by omega), State.ioRead, if_pos hs]
  unfold ramKey at h
  split at h
  · cases h
  · next hl =>
    rw [State.busRead, if_neg (by rw [locked_iff]; exact hl)]
    split at h
    · split at h
      · cases h
      · next hg =>
        cases h
        rw [State.regionRead, if_neg (by omega), if_pos (by omega)]
        exact if_neg (by simp only [Bool.true_and, vramGated_iff]; exact hg)
    · repeat' split at h
      all_goals cases h
      all_goals first
        | exact io (by omega) (by omega) (by rw [isStub_iff]; omega)
        | (rw [State.regionRead]
           repeat rw [if_neg (by omega)]
           rw [if_pos (by omega)])
      next hg => exact if_neg (by simp only [Bool.true_and, oamGated_iff]; exact hg)

/-- A cartridge read depends on the memory only through the ROM image. -/
theorem romRead_congr {s t : State} (x : Word) (hx : x.toNat < 0x8000) (hc : t.cart = s.cart)
    (hp : t.params = s.params) (hb : t.bootRomEnabled = s.bootRomEnabled)
    (hm : ∀ k, k < 0x8000 → t.mem.read k = s.mem.read k) : t.romRead x = s.romRead x := by
  simp only [State.romRead, State.cartRead, hc, hp, hb, hm _ hx]

/-- Two states that differ only in the memory read alike at an address if they agree on the ROM image
and on the cell the address names. -/
theorem busRead_congr {s : State} {m : Memory} (x : Word) (hrom : ∀ k, k < 0x8000 → m.read k = s.mem.read k)
    (hk : ∀ k, ramKey s x = some k → m.read k = s.mem.read k) :
    State.busRead { s with mem := m } x = s.busRead x := by
  have hx : x.toNat < 65536 := x.isLt
  have e : ramKey { s with mem := m } x = ramKey s x := rfl
  by_cases hj : ramKey s x = some 0xFF00
  · have hx0 : x.toNat = 0xFF00 := by
      unfold ramKey at hj
      split at hj
      · cases hj
      · repeat' split at hj
        all_goals try cases hj
        all_goals simp only [Option.some.injEq] at hj
        all_goals try omega
        all_goals
          exfalso
          revert hj
          unfold echoKey
          cases s.params.echoHigh <;> dsimp only <;> omega
    simp only [State.busRead, State.locked, State.regionRead, hx0]
    rfl
  · cases hr : ramKey s x with
    | some k =>
      have hne : k ≠ 0xFF00 := fun h => hj (h ▸ hr)
      rw [busRead_of_ramKey (e.trans hr) hne, busRead_of_ramKey hr hne]
      exact hk k hr
    | none =>
      clear hk hj
      unfold ramKey at hr
      unfold State.busRead
      have hl : State.locked { s with mem := m } x = s.locked x := rfl
      rw [hl]
      split
      · rfl
      · next hlk =>
        rw [locked_iff] at hlk
        rw [if_neg hlk] at hr
        unfold State.regionRead
        have hv : State.vramGated { s with mem := m } = s.vramGated := rfl
        have ho : State.oamGated { s with mem := m } = s.oamGated := rfl
        rw [hv, ho]
        by_cases h8 : x.toNat < 0x8000
        · rw [if_pos h8, if_pos h8]
          exact romRead_congr x h8 rfl rfl rfl hrom
        rw [if_neg h8, if_neg h8]
        by_cases hA : x.toNat < 0xA000
        · rw [if_pos (by omega)] at hr
          split at hr
          · next hg => rw [if_pos hA, if_pos hA]; simp [(vramGated_iff s).2 hg]
          · cases hr
        rw [if_neg (by omega)] at hr
        rw [if_neg hA, if_neg hA]
        by_cases hC : x.toNat < 0xC000
        · rw [if_pos hC, if_pos hC]; rfl
        rw [if_neg hC, if_neg hC]
        by_cases hE : x.toNat < 0xE000
        · rw [if_pos (by omega)] at hr; cases hr
        rw [if_neg (by omega)] at hr
        rw [if_neg hE, if_neg hE]
        by_cases hF : x.toNat < 0xFE00
        · rw [if_pos (by omega)] at hr; cases hr
        rw [if_neg (by omega)] at hr
        rw [if_neg hF, if_neg hF]
        by_cases hO : x.toNat < 0xFEA0
        · rw [if_pos (by omega)] at hr
          split at hr
          · next hg => rw [if_pos hO, if_pos hO]; simp [(oamGated_iff s).2 hg]
          · cases hr
        rw [if_neg (by omega)] at hr
        rw [if_neg hO, if_neg hO]
        by_cases hG : x.toNat < 0xFF00
        · rw [if_pos hG, if_pos hG]
        rw [if_neg hG, if_neg hG]
        by_cases hI : x.toNat < 0xFF80
        · rw [if_pos hI, if_pos hI]
          unfold State.ioRead
          have hst : isStub x.toNat = false := by
            apply Bool.eq_false_iff.2
            rw [Ne, isStub_iff]
            intro hc
            rcases hc with hc | hc | hc | hc
            · rw [if_pos (by omega)] at hr; cases hr
            · rw [if_pos (by omega)] at hr; cases hr
            · rw [if_neg (by omega), if_pos (by omega)] at hr; cases hr
            · rw [if_neg (by omega), if_neg (by omega), if_pos (by omega)] at hr; cases hr
          simp only [hst, Bool.false_eq_true, if_false]
        rw [if_neg hI, if_neg hI]
        rw [if_neg (by omega), if_neg (by omega), if_neg (by omega)] at hr
        by_cases hZ : x.toNat < 0xFFFF
        · rw [if_pos (by omega)] at hr; cases hr
        rw [if_neg hZ, if_neg hZ]
        rfl

/-- Where a cell lies. -/
theorem ramKey_range {s : State} {x : Word} {k : Nat} (h : ramKey s x = some k) : 0x8000 ≤ k ∧ k < 0x10000 := by
  have hx : x.toNat < 65536 := x.isLt
  unfold ramKey at h
  split at h
  · cases h
  · repeat' split at h
    all_goals try cases h
    all_goals try omega
    all_goals
      unfold echoKey
      cases s.params.echoHigh <;> dsimp only <;> omega

/-! The copy of a DMA. -/

/-- The copy changes nothing but the memory. -/
theorem dmaCopy_eq (n i : Nat) (v : Byte) (s : State) :
    s.dmaCopy n i v = { s with mem := (s.dmaCopy n i v).mem } := by
  induction n generalizing i s with
  | zero => rfl
  | succ n ih => rw [State.dmaCopy, ih]; rfl

/-- The copy of `n` bytes from index `i` on keeps the canonical form, changes no cell outside
`0xFE00 + i .. 0xFE00 + i + n - 1`, and lists no other new cell. -/
theorem dmaCopy_mem (n i : Nat) (v : Byte) (s : State) (hm : s.mem.wf = true) :
    (s.dmaCopy n i v).mem.wf = true ∧
    (∀ k, (k < 0xFE00 + i ∨ 0xFE00 + i + n ≤ k) → (s.dmaCopy n i v).mem.read k = s.mem.read k) ∧
    (∀ cell ∈ (s.dmaCopy n i v).mem, cell ∈ s.mem ∨ (0xFE00 + i ≤ cell.1 ∧ cell.1 < 0xFE00 + i + n)) := by
  induction n generalizing i s with
  | zero => exact ⟨hm, fun _ _ => rfl, fun _ h => .inl h⟩
  | succ n ih =>
    rw [State.dmaCopy]
    obtain ⟨h1, h2, h3⟩ := ih (i + 1) (s.store (0xFE00 + i)
      ((s.bumpFree 1).regionRead (wordOf v (BitVec.ofNat 8 i)) false)) (Memory.wf_write _ _ hm)
    refine ⟨h1, fun k hk => ?_, fun cell hc => ?_⟩
    · rw [h2 k (by omega), store_mem, Memory.read_write _ _ _ hm, if_neg (by omega)]
    · rcases h3 cell hc with h | h
      · rcases Memory.mem_write h with h | h
        · exact .inl h
        · subst h; exact .inr ⟨Nat.le_refl _, by show 0xFE00 + i < _; omega⟩
      · exact .inr (by omega)

/-! Any write. -/

/-- A property of both branches is one of the conditional. -/
theorem ite_holds {α : Type} {P : α → Prop} {c : Prop} [Decidable c] {x y : α} (hx : c → P x)
    (hy : ¬c → P y) : P (if c then x else y) := by
  split
  · exact hx ‹_›
  · exact hy ‹_›

/-- `t` has the memory of `s`. -/
def SameMem (s t : State) : Prop := t.mem = s.mem

/-- What a write to an I/O address that is no stub and no DMA trigger leaves of the memory. -/
theorem ioWrite_mem (s : State) (n : Nat) (v : Byte) (h : isStub n = false) (h0 : n ≠ 0xFF00)
    (h46 : n ≠ 0xFF46) : SameMem s (s.ioWrite n v) := by
  unfold State.ioWrite
  rw [if_neg (by simp [h, h0])]
  iterate 10
    apply ite_holds (P := SameMem s)
    · intro _; exact rfl
    intro _
  apply ite_holds (P := SameMem s)
  · intro e; exact absurd e h46
  intro _
  iterate 5
    apply ite_holds (P := SameMem s)
    · intro _; exact rfl
    intro _
  apply ite_holds (P := SameMem s)
  · intro _
    apply ite_holds (P := SameMem s)
    · intro _; exact rfl
    · intro _; exact rfl
  · intro _; exact rfl

/-- The memory after a write, case by case: one cell stored to, an OAM DMA, or nothing. -/
theorem busWrite_mem (s : State) (x : Word) (v : Byte) :
    (∃ k, ramKey s x = some k ∧ (s.busWrite x v).mem = s.mem.write k v) ∨
    (ramKey s x = none ∧ dmaStarts s x = true ∧ s.busWrite x v = s.dmaTrigger v) ∨
    (ramKey s x = none ∧ dmaStarts s x = false ∧ (s.busWrite x v).mem = s.mem) := by
  have hx : x.toNat < 65536 := x.isLt
  cases hr : ramKey s x with
  | some k => exact .inl ⟨k, rfl, by rw [busWrite_of_ramKey v hr]; rfl⟩
  | none =>
    right
    by_cases hd : dmaStarts s x = true
    · left
      refine ⟨rfl, hd, ?_⟩
      simp only [dmaStarts, Bool.and_eq_true, decide_eq_true_eq] at hd
      obtain ⟨rfl, h0⟩ := hd
      rw [State.busWrite, if_neg (by rw [locked_iff]; omega)]
      rfl
    · right
      refine ⟨rfl, by simpa using hd, ?_⟩
      unfold ramKey at hr
      unfold State.busWrite
      split
      · rfl
      · next hl =>
        rw [locked_iff] at hl
        rw [if_neg hl] at hr
        unfold State.regionWrite
        by_cases h8 : x.toNat < 0x8000
        · rw [if_pos h8, State.cartWrite]; split <;> rfl
        rw [if_neg h8]
        by_cases hA : x.toNat < 0xA000
        · rw [if_pos (by omega)] at hr
          split at hr
          · next hg => rw [if_pos hA, if_pos ((vramGated_iff s).2 hg)]
          · cases hr
        rw [if_neg (by omega)] at hr
        rw [if_neg hA]
        by_cases hC : x.toNat < 0xC000
        · rw [if_pos hC, State.cartWriteSram]; split <;> rfl
        rw [if_neg hC]
        by_cases hE : x.toNat < 0xE000
        · rw [if_pos (by omega)] at hr; cases hr
        rw [if_neg (by omega)] at hr
        rw [if_neg hE]
        by_cases hF : x.toNat < 0xFE00
        · rw [if_pos (by omega)] at hr; cases hr
        rw [if_neg (by omega)] at hr
        rw [if_neg hF]
        by_cases hO : x.toNat < 0xFEA0
        · rw [if_pos (by omega)] at hr
          split at hr
          · next hg => rw [if_pos hO, if_pos ((oamGated_iff s).2 hg)]
          · cases hr
        rw [if_neg (by omega)] at hr
        rw [if_neg hO]
        by_cases hG : x.toNat < 0xFF00
        · rw [if_pos hG]
        rw [if_neg hG]
        by_cases hI : x.toNat < 0xFF80
        · rw [if_pos hI]
          have hst : isStub x.toNat = false ∧ x.toNat ≠ 0xFF00 := by
            constructor
            · apply Bool.eq_false_iff.2
              rw [Ne, isStub_iff]
              intro hc
              rcases hc with hc | hc | hc | hc
              · rw [if_pos (by omega)] at hr; cases hr
              · rw [if_pos (by omega)] at hr; cases hr
              · rw [if_neg (by omega), if_pos (by omega)] at hr; cases hr
              · rw [if_neg (by omega), if_neg (by omega), if_pos (by omega)] at hr; cases hr
            · intro hc
              rw [if_pos (by omega)] at hr; cases hr
          refine ioWrite_mem s _ v hst.1 hst.2 fun h46 => hd ?_
          simp only [dmaStarts, Bool.and_eq_true, decide_eq_true_eq]
          exact ⟨BitVec.eq_of_toNat_eq (by rw [h46]; rfl), by omega⟩
        rw [if_neg hI]
        rw [if_neg (by omega), if_neg (by omega), if_neg (by omega)] at hr
        by_cases hZ : x.toNat < 0xFFFF
        · rw [if_pos (by omega)] at hr; cases hr
        rw [if_neg hZ]

/-- `t` has the registers, flags and control bits of the CPU, the driver's count and the parameters of `s`. -/
def SameCpu (s t : State) : Prop :=
  t = { s with
    requested := t.requested, ie := t.ie, dmaRemaining := t.dmaRemaining
    bootRomEnabled := t.bootRomEnabled, timer := t.timer, ppu := t.ppu, mem := t.mem
    cart := t.cart, freeCtr := t.freeCtr }

theorem dmaTrigger_same (s : State) (v : Byte) : SameCpu s (s.dmaTrigger v) := by
  obtain ⟨m, hm⟩ : ∃ m, s.dmaCopy 160 0 v = { s with mem := m } := ⟨_, dmaCopy_eq 160 0 v s⟩
  unfold State.dmaTrigger
  rw [hm]
  rfl

theorem dmaTrigger_mem (s : State) (v : Byte) : (s.dmaTrigger v).mem = (s.dmaCopy 160 0 v).mem := by
  unfold State.dmaTrigger
  generalize s.dmaCopy 160 0 v = t
  rfl

theorem ioWrite_same (s : State) (n : Nat) (v : Byte) : SameCpu s (s.ioWrite n v) := by
  unfold State.ioWrite
  iterate 11
    apply ite_holds (P := SameCpu s)
    · intro _; exact rfl
    intro _
  apply ite_holds (P := SameCpu s)
  · intro _; exact dmaTrigger_same s v
  intro _
  iterate 5
    apply ite_holds (P := SameCpu s)
    · intro _; exact rfl
    intro _
  apply ite_holds (P := SameCpu s)
  · intro _
    apply ite_holds (P := SameCpu s)
    · intro _; exact rfl
    · intro _; exact rfl
  · intro _; exact rfl

theorem cartWrite_same (s : State) (x : Word) (v : Byte) : SameCpu s (s.cartWrite x v) := by
  unfold State.cartWrite; cases s.cart <;> exact rfl

theorem cartWriteSram_same (s : State) (x : Word) (v : Byte) : SameCpu s (s.cartWriteSram x v) := by
  unfold State.cartWriteSram; cases s.cart <;> exact rfl

theorem store_same (s : State) (k : Nat) (v : Byte) : SameCpu s (s.store k v) := rfl

/-- A write leaves every register, flag and control bit of the CPU, the driver's count and the parameters. -/
theorem busWrite_same (s : State) (x : Word) (v : Byte) : SameCpu s (s.busWrite x v) := by
  unfold State.busWrite State.regionWrite
  apply ite_holds (P := SameCpu s)
  · intro _; exact rfl
  intro _
  apply ite_holds (P := SameCpu s)
  · intro _; exact cartWrite_same s x v
  intro _
  apply ite_holds (P := SameCpu s)
  · intro _
    apply ite_holds (P := SameCpu s)
    · intro _; exact rfl
    · intro _; exact rfl
  intro _
  apply ite_holds (P := SameCpu s)
  · intro _; exact cartWriteSram_same s x v
  intro _
  apply ite_holds (P := SameCpu s)
  · intro _; exact rfl
  intro _
  apply ite_holds (P := SameCpu s)
  · intro _; exact rfl
  intro _
  apply ite_holds (P := SameCpu s)
  · intro _
    apply ite_holds (P := SameCpu s)
    · intro _; exact rfl
    · intro _; exact rfl
  intro _
  apply ite_holds (P := SameCpu s)
  · intro _; exact rfl
  intro _
  apply ite_holds (P := SameCpu s)
  · intro _; exact ioWrite_same s x.toNat v
  intro _
  apply ite_holds (P := SameCpu s)
  · intro _; exact rfl
  · intro _; exact rfl

/-- The whole frame of a store, as the claims state it. -/
theorem storeFrame_busWrite (s : State) (x : Word) (v : Byte) : StoreFrame s (s.busWrite x v) x v := by
  refine ⟨rfl, busWrite_same s x v, fun hm => ?_⟩
  rcases busWrite_mem s x v with ⟨k, hk, he⟩ | ⟨hk, hd, he⟩ | ⟨hk, hd, he⟩
  · refine ⟨fun k' hk' => ?_, fun k' hk' _ => ?_, fun k' hd => ?_, fun _ y hy => ?_⟩
    · rw [hk] at hk'; cases hk'; rw [he, Memory.read_write _ _ _ hm, if_pos rfl]
    · rw [he, Memory.read_write _ _ _ hm, if_neg]
      rintro rfl
      exact hk' hk
    · simp only [dmaStarts, Bool.and_eq_true, decide_eq_true_eq] at hd
      obtain ⟨rfl, h0⟩ := hd
      simp [ramKey, h0] at hk
    · rw [busWrite_of_ramKey v hk]
      refine busRead_congr (m := s.mem.write k v) y (fun k' h => ?_) fun k' h => ?_
      · rw [Memory.read_write _ _ _ hm, if_neg]
        have := (ramKey_range hk).1
        omega
      · rw [Memory.read_write _ _ _ hm, if_neg]
        rintro rfl
        exact hy (h.trans hk.symm)
  · refine ⟨fun k' hk' => (by rw [hk] at hk'; cases hk'), fun k' _ h => (by rw [hd] at h; cases h),
      fun k' _ hk' => ?_, fun h => absurd hk h⟩
    rw [he, dmaTrigger_mem]
    exact (dmaCopy_mem 160 0 v s hm).2.1 k' (by omega)
  · refine ⟨fun k' hk' => (by rw [hk] at hk'; cases hk'), fun k' _ _ => (by rw [he]), fun k' h => ?_,
      fun h => absurd hk h⟩
    rw [hd] at h
    cases h

/-- A push, as the claims state it. -/
theorem pushed_push16 (s : State) (w : Word) : Pushed s (s.push16 w) w := by
  have e1 : (s.push8 (hiByte w)).sp = s.sp - 1#16 := congrArg State.sp (busWrite_same _ _ _)
  have e2 : (s.push16 w).sp = (s.push8 (hiByte w)).sp - 1#16 := congrArg State.sp (busWrite_same _ _ _)
  have e3 : s.sp - 1#16 - 1#16 = s.sp - 2#16 := by bv_omega
  refine ⟨by rw [e2, e1, e3], s.push8 (hiByte w), storeFrame_busWrite _ _ _, ?_⟩
  have : s.push16 w = State.busWrite { s.push8 (hiByte w) with sp := s.sp - 2#16 } (s.sp - 2#16) (loByte w) := by
    rw [State.push16, State.push8, e1, e3]
  rw [this]
  exact storeFrame_busWrite _ _ _

end Sys2Proof.Machine
end

