-- ==== Sys2Proof/Laws/Cycles.lean ====
section
/-! SUPPORT. The cycle table: a bound on its entries is one on the M-cycles of every instruction, and the
table of R415 has the bound. -/

namespace Sys2Proof.Machine

theorem boundedCycles_default : boundedCycles .default = true := by decide

theorem tableEntry_le {rows : List (List Nat)} {m : Nat} (h : ∀ row ∈ rows, ∀ n ∈ row, n ≤ m) (op : Byte) :
    tableEntry rows op ≤ m := by
  have entry : ∀ (row : List Nat) (k : Nat), (∀ n ∈ row, n ≤ m) → row.getD k 0 ≤ m := by
    intro row k hrow
    rw [List.getD_eq_getElem?_getD]
    cases he : row[k]? with
    | none => exact Nat.zero_le m
    | some n => exact hrow n (List.mem_of_getElem? he)
  refine entry _ _ ?_
  rw [List.getD_eq_getElem?_getD]
  cases he : rows[op.toNat / 16]? with
  | none => intro n hn; cases hn
  | some row => exact h row (List.mem_of_getElem? he)

/-- What the bound says of the three parts of a table. -/
theorem boundedCycles_iff {t : CycleTable} : boundedCycles t = true ↔
    ((∀ row ∈ t.base, ∀ n ∈ row, n ≤ 6) ∧ ∀ entry ∈ t.taken, entry.2 ≤ 6) ∧ ∀ row ∈ t.cb, ∀ n ∈ row, n ≤ 6 := by
  simp [boundedCycles]

/-- Under a bounded table no instruction takes more than 6 M-cycles. -/
theorem mCycles_le {s : State} (h : boundedCycles s.params.cycles = true) (i : Instr) : mCycles i s ≤ 6 := by
  obtain ⟨⟨hb, ht⟩, hc⟩ := boundedCycles_iff.1 h
  have base : ∀ op, s.params.cycles.baseCount op ≤ 6 := tableEntry_le hb
  have taken : ∀ op, s.params.cycles.takenCount op ≤ 6 := by
    intro op
    unfold CycleTable.takenCount
    split
    · next entry he => exact ht entry (List.mem_of_find?_eq_some he)
    · exact base op
  unfold mCycles
  split
  · exact Nat.zero_le 6
  · split
    · exact tableEntry_le hc _
    · unfold opCycles
      split
      · split
        · exact taken _
        · exact base _
      · exact base _

end Sys2Proof.Machine
end

