-- ==== Sys2Proof/Laws/Timer.lean ====
section
/-! SUPPORT. What the timer's operations can do: each leaves TMA and TAC, the reload delay stays in 0..4, and
the divider counts. -/

namespace Sys2Proof.Machine

@[simp] theorem Timer.incTima_div16 (t : Timer) : t.incTima.1.div16 = t.div16 := by
  unfold Timer.incTima; split <;> rfl

@[simp] theorem Timer.incTima_tma (t : Timer) : t.incTima.1.tma = t.tma := by
  unfold Timer.incTima; split <;> rfl

@[simp] theorem Timer.incTima_tac (t : Timer) : t.incTima.1.tac = t.tac := by
  unfold Timer.incTima; split <;> rfl

theorem Timer.incTima_reload (t : Timer) (h : t.reloadDelay ≤ 4) : t.incTima.1.reloadDelay ≤ 4 := by
  unfold Timer.incTima; split
  · exact Nat.le_refl 4
  · exact h

@[simp] theorem Timer.fallingEdge_div16 (b : Bool) (t : Timer) : (t.fallingEdge b).1.div16 = t.div16 := by
  unfold Timer.fallingEdge; split
  · exact t.incTima_div16
  · rfl

@[simp] theorem Timer.fallingEdge_tma (b : Bool) (t : Timer) : (t.fallingEdge b).1.tma = t.tma := by
  unfold Timer.fallingEdge; split
  · exact t.incTima_tma
  · rfl

@[simp] theorem Timer.fallingEdge_tac (b : Bool) (t : Timer) : (t.fallingEdge b).1.tac = t.tac := by
  unfold Timer.fallingEdge; split
  · exact t.incTima_tac
  · rfl

theorem Timer.fallingEdge_reload (b : Bool) (t : Timer) (h : t.reloadDelay ≤ 4) :
    (t.fallingEdge b).1.reloadDelay ≤ 4 := by
  unfold Timer.fallingEdge; split
  · exact t.incTima_reload h
  · exact h

@[simp] theorem Timer.countdown_div16 (t : Timer) : t.countdown.div16 = t.div16 := by
  unfold Timer.countdown; split
  · rfl
  · split <;> rfl

@[simp] theorem Timer.countdown_tma (t : Timer) : t.countdown.tma = t.tma := by
  unfold Timer.countdown; split
  · rfl
  · split <;> rfl

@[simp] theorem Timer.countdown_tac (t : Timer) : t.countdown.tac = t.tac := by
  unfold Timer.countdown; split
  · rfl
  · split <;> rfl

theorem Timer.countdown_reload (t : Timer) : t.countdown.reloadDelay = t.reloadDelay - 1 := by
  unfold Timer.countdown; split
  · omega
  · split
    · show 0 = _; omega
    · rfl

@[simp] theorem Timer.tick_div16 (t : Timer) : t.tick.1.div16 = t.div16 + 1#16 := by
  simp [Timer.tick]

@[simp] theorem Timer.tick_tma (t : Timer) : t.tick.1.tma = t.tma := by simp [Timer.tick]

@[simp] theorem Timer.tick_tac (t : Timer) : t.tick.1.tac = t.tac := by simp [Timer.tick]

theorem Timer.tick_reload (t : Timer) (h : t.reloadDelay ≤ 4) : t.tick.1.reloadDelay ≤ 4 := by
  unfold Timer.tick
  apply Timer.fallingEdge_reload
  show t.countdown.reloadDelay ≤ 4
  rw [Timer.countdown_reload]
  omega

/-- Everything an advance keeps: TMA, TAC, the range of the reload delay; and the divider counts. -/
theorem Timer.advance_keeps (n : Nat) (t : Timer) (irq : Bool) :
    (Timer.advance n t irq).1.div16 = t.div16 + BitVec.ofNat 16 n ∧
    (Timer.advance n t irq).1.tma = t.tma ∧ (Timer.advance n t irq).1.tac = t.tac ∧
    (t.reloadDelay ≤ 4 → (Timer.advance n t irq).1.reloadDelay ≤ 4) := by
  induction n generalizing t irq with
  | zero => refine ⟨?_, rfl, rfl, id⟩; show t.div16 = t.div16 + 0#16; simp
  | succ n ih =>
    rw [Timer.advance]
    obtain ⟨h1, h2, h3, h4⟩ := ih t.tick.1 (irq || t.tick.2)
    refine ⟨?_, h2.trans t.tick_tma, h3.trans t.tick_tac, fun h => h4 (t.tick_reload h)⟩
    rw [h1, Timer.tick_div16]
    have : BitVec.ofNat 16 (n + 1) = BitVec.ofNat 16 n + 1#16 := by
      rw [BitVec.ofNat_add]
    rw [this]
    bv_omega

theorem Timer.writeDiv_reload (t : Timer) (h : t.reloadDelay ≤ 4) : t.writeDiv.1.reloadDelay ≤ 4 :=
  Timer.fallingEdge_reload _ _ h

theorem Timer.writeTac_reload (t : Timer) (v : Byte) (h : t.reloadDelay ≤ 4) :
    (t.writeTac v).1.reloadDelay ≤ 4 := Timer.fallingEdge_reload _ _ h

end Sys2Proof.Machine
end

