-- ==== Sys2Proof/Laws/Video.lean ====
section
/-! SUPPORT. What the video controller's operations can do: the renderer moves neither the mode machine nor a
register, each operation keeps the invariant `Ppu.Inv`, and a display that is on stays on. -/

namespace Sys2Proof.Machine

/-- `q` differs from `p` at most in what the renderer works on. -/
def Ppu.Draws (p q : Ppu) : Prop :=
  q = { p with
        lx := q.lx, sprites := q.sprites, bgFifo := q.bgFifo, spriteFifo := q.spriteFifo
        bgFetch := q.bgFetch, spriteFetch := q.spriteFetch, framebuffer := q.framebuffer
        drawCtr := q.drawCtr }

theorem Ppu.Draws.refl (p : Ppu) : p.Draws p := rfl

theorem Ppu.Draws.trans {p q r : Ppu} (h1 : p.Draws q) (h2 : q.Draws r) : p.Draws r := by
  unfold Ppu.Draws at *; rw [h2, h1]

theorem Ppu.Draws.mode {p q : Ppu} (h : p.Draws q) : q.mode = p.mode := by
  have h' := congrArg Ppu.mode h
  exact h'
theorem Ppu.Draws.dot {p q : Ppu} (h : p.Draws q) : q.dot = p.dot := by
  have h' := congrArg Ppu.dot h
  exact h'
theorem Ppu.Draws.ly {p q : Ppu} (h : p.Draws q) : q.ly = p.ly := by
  have h' := congrArg Ppu.ly h
  exact h'
theorem Ppu.Draws.lcdc {p q : Ppu} (h : p.Draws q) : q.lcdc = p.lcdc := by
  have h' := congrArg Ppu.lcdc h
  exact h'
theorem Ppu.Draws.stat {p q : Ppu} (h : p.Draws q) : q.stat = p.stat := by
  have h' := congrArg Ppu.stat h
  exact h'
theorem Ppu.Draws.lyc {p q : Ppu} (h : p.Draws q) : q.lyc = p.lyc := by
  have h' := congrArg Ppu.lyc h
  exact h'
theorem Ppu.Draws.winLine {p q : Ppu} (h : p.Draws q) : q.winLine = p.winLine := by
  have h' := congrArg Ppu.winLine h
  exact h'

/-- The renderer's part of the invariant. -/
structure Ppu.Bounds (p : Ppu) : Prop where
  sprites : p.sprites.length ≤ 10
  fifo : p.bgFifo.length ≤ 16
  spriteFifo : p.spriteFifo.length ≤ 8
  picture : p.framebuffer.wf = true
  shades : ∀ k, (p.framebuffer.read k).toNat < 4

theorem paletteShade_lt (pal : Byte) (k : BitVec 2) : (paletteShade pal k).toNat < 4 := by
  unfold paletteShade
  have := (pal.extractLsb' (2 * k.toNat) 2).isLt
  rw [BitVec.toNat_setWidth]
  exact Nat.lt_of_le_of_lt (Nat.mod_le _ _) this

theorem Ppu.mix_lt (p : Ppu) (bg : BitVec 2) (sp : Option SpritePixel) : (p.mix bg sp).toNat < 4 := by
  unfold Ppu.mix
  split
  · exact paletteShade_lt _ _
  · split
    · exact paletteShade_lt _ _
    · exact paletteShade_lt _ _

theorem tilePixels_length (low high : Byte) : (tilePixels low high).length = 8 := rfl

theorem spritePixels_length (sp : Sprite) (low high : Byte) : (spritePixels sp low high).length = 8 := by
  unfold spritePixels; split <;> simp [tilePixels_length]

theorem mergeSprites_length (old new : List SpritePixel) :
    (mergeSprites old new).length = max old.length new.length := by
  induction old generalizing new with
  | nil => cases new <;> simp [mergeSprites]
  | cons o os ih =>
    cases new with
    | nil => simp [mergeSprites]
    | cons n ns => simp [mergeSprites, ih]

theorem Ppu.pushPixels_length (p : Ppu) : p.pushPixels.length ≤ 8 := by
  unfold Ppu.pushPixels
  split
  · rw [List.length_drop, tilePixels_length]; omega
  · exact Nat.le_refl 8

/-! Each piece of the renderer: what it moves, and that it keeps the bounds. -/

theorem Ppu.tryPush_draws (p : Ppu) : p.Draws p.tryPush := by unfold Ppu.tryPush; split <;> exact rfl

theorem Ppu.tryPush_lx (p : Ppu) : p.tryPush.lx = p.lx := by unfold Ppu.tryPush; split <;> rfl

theorem Ppu.tryPush_bounds {p : Ppu} (h : p.Bounds) : p.tryPush.Bounds := by
  unfold Ppu.tryPush
  split
  · next hl =>
    refine ⟨h.1, ?_, h.3, h.4, h.5⟩
    show (p.bgFifo ++ p.pushPixels).length ≤ 16
    rw [List.length_append]
    have := p.pushPixels_length
    omega
  · exact ⟨h.1, h.2, h.3, h.4, h.5⟩

theorem Ppu.bgFetchDot_draws (mem : Memory) (p : Ppu) : p.Draws (p.bgFetchDot mem) := by
  unfold Ppu.bgFetchDot
  split
  · split <;> exact rfl
  · split <;> exact rfl
  · split <;> exact rfl
  · exact p.tryPush_draws
  · exact p.tryPush_draws

theorem Ppu.bgFetchDot_lx (mem : Memory) (p : Ppu) : (p.bgFetchDot mem).lx = p.lx := by
  unfold Ppu.bgFetchDot
  split
  · split <;> rfl
  · split <;> rfl
  · split <;> rfl
  · exact p.tryPush_lx
  · exact p.tryPush_lx

theorem Ppu.bgFetchDot_bounds (mem : Memory) {p : Ppu} (h : p.Bounds) : (p.bgFetchDot mem).Bounds := by
  unfold Ppu.bgFetchDot
  split
  · split <;> exact ⟨h.1, h.2, h.3, h.4, h.5⟩
  · split <;> exact ⟨h.1, h.2, h.3, h.4, h.5⟩
  · split <;> exact ⟨h.1, h.2, h.3, h.4, h.5⟩
  · exact Ppu.tryPush_bounds h
  · exact Ppu.tryPush_bounds h

theorem Ppu.windowTrigger_draws (p : Ppu) : p.Draws p.windowTrigger := by
  unfold Ppu.windowTrigger; split <;> exact rfl

theorem Ppu.windowTrigger_lx (p : Ppu) : p.windowTrigger.lx = p.lx := by
  unfold Ppu.windowTrigger; split <;> rfl

theorem Ppu.windowTrigger_bounds {p : Ppu} (h : p.Bounds) : p.windowTrigger.Bounds := by
  unfold Ppu.windowTrigger
  split
  · exact ⟨h.1, Nat.zero_le 16, h.3, h.4, h.5⟩
  · exact h

/-- `takeSprite` gives a sprite of the list that passes the test, and leaves the others. -/
theorem takeSprite_perm {test : Sprite → Bool} {l others : List Sprite} {sp : Sprite}
    (h : takeSprite test l = some (sp, others)) : test sp = true ∧ l.Perm (sp :: others) := by
  induction l generalizing sp others with
  | nil => cases h
  | cons q qs ih =>
    unfold takeSprite at h
    split at h
    · next hq => cases h; exact ⟨hq, .refl _⟩
    · split at h
      · next found rest hf =>
        cases h
        exact ⟨(ih hf).1, ((ih hf).2.cons q).trans (.swap _ _ _)⟩
      · cases h

theorem Ppu.spriteTrigger_draws (p : Ppu) : p.Draws p.spriteTrigger := by
  unfold Ppu.spriteTrigger
  split
  · split <;> exact rfl
  · exact rfl

theorem Ppu.spriteTrigger_lx (p : Ppu) : p.spriteTrigger.lx = p.lx := by
  unfold Ppu.spriteTrigger
  split
  · split <;> rfl
  · rfl

theorem Ppu.spriteTrigger_bounds {p : Ppu} (h : p.Bounds) : p.spriteTrigger.Bounds := by
  unfold Ppu.spriteTrigger
  split
  · next sp others _ hs =>
    split
    · have fewer := (takeSprite_perm hs).2.length_eq
      rw [List.length_cons] at fewer
      exact ⟨(by have := h.1; omega : others.length ≤ 10), h.2, h.3, h.4, h.5⟩
    · exact h
  · exact h

theorem Ppu.spriteFetchDot_draws (mem : Memory) (p : Ppu) (sp : Sprite) : p.Draws (p.spriteFetchDot mem sp) := by
  unfold Ppu.spriteFetchDot
  split
  · split <;> exact rfl
  · split <;> exact rfl
  · split <;> exact rfl
  · exact rfl
  · exact rfl

theorem Ppu.spriteFetchDot_lx (mem : Memory) (p : Ppu) (sp : Sprite) : (p.spriteFetchDot mem sp).lx = p.lx := by
  unfold Ppu.spriteFetchDot
  split
  · split <;> rfl
  · split <;> rfl
  · split <;> rfl
  · rfl
  · rfl

theorem Ppu.spritePush_bounds {p : Ppu} (sp : Sprite) (h : p.Bounds) : (p.spritePush sp).Bounds := by
  refine ⟨h.1, h.2, ?_, h.4, h.5⟩
  show (mergeSprites p.spriteFifo
    ((spritePixels sp p.spriteFetch.low p.spriteFetch.high).drop (p.lx + 8 - sp.x.toNat))).length ≤ 8
  rw [mergeSprites_length, List.length_drop, spritePixels_length]
  have := h.3
  omega

theorem Ppu.spriteFetchDot_bounds (mem : Memory) {p : Ppu} (sp : Sprite) (h : p.Bounds) :
    (p.spriteFetchDot mem sp).Bounds := by
  unfold Ppu.spriteFetchDot
  split
  · split <;> exact ⟨h.1, h.2, h.3, h.4, h.5⟩
  · split <;> exact ⟨h.1, h.2, h.3, h.4, h.5⟩
  · split <;> exact ⟨h.1, h.2, h.3, h.4, h.5⟩
  · exact Ppu.spritePush_bounds sp h
  · exact Ppu.spritePush_bounds sp h

theorem Ppu.compose_draws (p : Ppu) : p.Draws p.compose := by
  unfold Ppu.compose; split <;> exact rfl

theorem Ppu.compose_lx (p : Ppu) : p.lx ≤ p.compose.lx ∧ p.compose.lx ≤ p.lx + 1 := by
  unfold Ppu.compose
  split
  · exact ⟨Nat.le_refl _, Nat.le_succ _⟩
  · exact ⟨Nat.le_succ _, Nat.le_refl _⟩

theorem Ppu.compose_bounds {p : Ppu} (h : p.Bounds) : p.compose.Bounds := by
  unfold Ppu.compose
  split
  · exact h
  · next bg rest hs =>
    have hf := h.2
    have hs3 := h.3
    rw [hs, List.length_cons] at hf
    refine ⟨h.1, ?_, ?_, Memory.wf_write _ _ h.4, fun k => ?_⟩
    · show rest.length ≤ 16; omega
    · show (p.spriteFifo.drop 1).length ≤ 8; rw [List.length_drop]; omega
    · show ((p.framebuffer.write _ _).read k).toNat < 4
      rw [Memory.read_write _ _ _ h.4]
      split
      · exact p.mix_lt _ _
      · exact h.5 k

theorem Ppu.drawWork_draws (mem : Memory) (p : Ppu) : p.Draws (p.drawWork mem) := by
  unfold Ppu.drawWork
  split
  · exact p.spriteFetchDot_draws mem _
  · exact p.compose_draws.trans (p.compose.bgFetchDot_draws mem)

theorem Ppu.drawWork_lx (mem : Memory) (p : Ppu) : (p.drawWork mem).lx ≤ p.lx + 1 := by
  unfold Ppu.drawWork
  split
  · rw [Ppu.spriteFetchDot_lx]; omega
  · rw [Ppu.bgFetchDot_lx]; exact p.compose_lx.2

theorem Ppu.drawWork_bounds (mem : Memory) {p : Ppu} (h : p.Bounds) : (p.drawWork mem).Bounds := by
  unfold Ppu.drawWork
  split
  · exact Ppu.spriteFetchDot_bounds mem _ h
  · exact Ppu.bgFetchDot_bounds mem (Ppu.compose_bounds h)

theorem Ppu.renderDot_draws (mem : Memory) (len : Option Nat) (p : Ppu) : p.Draws (p.renderDot mem len) := by
  unfold Ppu.renderDot
  split
  · exact rfl
  · split
    · exact rfl
    · have h : p.Draws (p.windowTrigger.spriteTrigger.drawWork mem) :=
        (p.windowTrigger_draws.trans p.windowTrigger.spriteTrigger_draws).trans (Ppu.drawWork_draws mem _)
      refine h.trans ?_
      exact rfl

theorem Ppu.renderDot_lx (mem : Memory) (len : Option Nat) {p : Ppu} (h : p.lx ≤ 160) :
    (p.renderDot mem len).lx ≤ 160 := by
  unfold Ppu.renderDot
  split
  · exact h
  · split
    · exact h
    · have := Ppu.drawWork_lx mem p.windowTrigger.spriteTrigger
      rw [Ppu.spriteTrigger_lx, Ppu.windowTrigger_lx] at this
      show (p.windowTrigger.spriteTrigger.drawWork mem).lx ≤ 160
      omega

theorem Ppu.renderDot_bounds (mem : Memory) (len : Option Nat) {p : Ppu} (h : p.Bounds) :
    (p.renderDot mem len).Bounds := by
  unfold Ppu.renderDot
  split
  · exact ⟨h.1, h.2, h.3, h.4, h.5⟩
  · split
    · exact ⟨h.1, h.2, h.3, h.4, h.5⟩
    · have := Ppu.drawWork_bounds mem (Ppu.spriteTrigger_bounds (Ppu.windowTrigger_bounds h))
      exact ⟨this.1, this.2, this.3, this.4, this.5⟩

/-! Sprite selection. -/

theorem Ppu.selectSprites_length (mem : Memory) (p : Ppu) (n k room : Nat) :
    (p.selectSprites mem n k room).length ≤ room := by
  induction n generalizing k room with
  | zero => exact Nat.zero_le _
  | succ n ih =>
    rw [Ppu.selectSprites]
    split
    · exact Nat.zero_le _
    · split
      · rw [List.length_cons]
        have := ih (k + 1) (room - 1)
        omega
      · exact ih (k + 1) room

theorem insertByX_perm (sp : Sprite) (l : List Sprite) : (insertByX sp l).Perm (sp :: l) := by
  induction l with
  | nil => exact .refl _
  | cons q qs ih =>
    unfold insertByX
    split
    · exact (ih.cons q).trans (.swap sp q qs)
    · exact .refl _

theorem sortByX_perm_append (l acc : List Sprite) :
    (l.foldl (fun acc sp => insertByX sp acc) acc).Perm (l ++ acc) := by
  induction l generalizing acc with
  | nil => exact .refl _
  | cons q qs ih =>
    refine (ih _).trans ?_
    refine ((insertByX_perm q acc).append_left qs).trans ?_
    exact List.perm_middle

/-- Ordering by X rearranges and nothing more. -/
theorem sortByX_perm (l : List Sprite) : (sortByX l).Perm l := by
  have := sortByX_perm_append l []
  rwa [List.append_nil] at this

theorem Ppu.buildSprites_length (mem : Memory) (p : Ppu) : (p.buildSprites mem).sprites.length ≤ 10 := by
  show (sortByX (p.selectSprites mem 40 0 10)).length ≤ 10
  rw [(sortByX_perm _).length_eq]
  exact Ppu.selectSprites_length mem p 40 0 10

/-! The mode machine. -/

theorem Ppu.placed_off {p : Ppu} (h : p.lcdc.getLsbD 7 = false) (hp : p.placed = true) :
    p.mode = .hblank ∧ p.dot = 0 ∧ p.ly = 0 := by
  simp only [Ppu.placed, h, Bool.false_or, Bool.and_eq_true, beq_iff_eq] at hp
  exact ⟨hp.1.1.1, hp.1.1.2, hp.1.2⟩

theorem Ppu.placed_on {p : Ppu} (h : p.lcdc.getLsbD 7 = true) : p.placed = true ↔
    match p.mode with
    | .oamScan => p.dot < 80 ∧ p.ly < 144
    | .drawing => 80 ≤ p.dot ∧ p.dot < 369 ∧ p.ly < 144
    | .hblank => p.dot < 456 ∧ p.ly < 144
    | .vblank => p.dot < 456 ∧ 144 ≤ p.ly ∧ p.ly < 154 := by
  simp only [Ppu.placed, h, Bool.true_or, Bool.true_and]
  cases p.mode <;> simp only [Bool.and_eq_true, decide_eq_true_eq, and_assoc]

theorem Ppu.enterMode_eq (p : Ppu) (m : VideoMode) :
    (p.enterMode m).1 = { p with mode := m, stat := statWithMode p.stat m.number } := rfl

theorem Ppu.startLine_eq (p : Ppu) (m : VideoMode) :
    (p.startLine m).1 = { p with mode := m, stat := (p.startLine m).1.stat } := rfl

/-- The bounds and the column, of any `q` that agrees with `p` on what the renderer works on. -/
theorem Ppu.Bounds.of_eq {p q : Ppu} (h : p.Bounds) (h1 : q.sprites = p.sprites) (h2 : q.bgFifo = p.bgFifo)
    (h3 : q.spriteFifo = p.spriteFifo) (h4 : q.framebuffer = p.framebuffer) : q.Bounds :=
  ⟨h1 ▸ h.1, h2 ▸ h.2, h3 ▸ h.3, h4 ▸ h.4, h4 ▸ h.5⟩

theorem Ppu.Inv.bounds {p : Ppu} (h : p.Inv) : p.Bounds := ⟨h.3, h.4, h.5, h.6, h.7⟩

theorem Ppu.Bounds.inv {p : Ppu} (h : p.Bounds) (hp : p.placed = true) (hc : p.lx ≤ 160) : p.Inv :=
  ⟨hp, hc, h.1, h.2, h.3, h.4, h.5⟩

/-- A display that is on stays on, and no register but STAT moves, in a tick. -/
theorem Ppu.dotStep_lcdc (mem : Memory) (len : Option Nat) (p : Ppu) :
    (p.dotStep mem len).1.lcdc = p.lcdc := by
  unfold Ppu.dotStep
  split
  · split <;> rfl
  · split
    · exact (p.renderDot_draws mem len).lcdc
    · exact (p.renderDot_draws mem len).lcdc
  · split <;> rfl
  · split
    · split <;> rfl
    · rfl

theorem Ppu.dotStep_inv (mem : Memory) (len : Option Nat) {p : Ppu} (hon : p.lcdc.getLsbD 7 = true)
    (h : p.Inv) : (Ppu.dotStep mem len { p with dot := p.dot + 1 }).1.Inv := by
  have hp := (Ppu.placed_on hon).1 h.placed
  have hb := h.bounds
  generalize hq : ({ p with dot := p.dot + 1 } : Ppu) = q
  have hqb : q.Bounds := by subst hq; exact hb.of_eq rfl rfl rfl rfl
  have hqc : q.lx ≤ 160 := by subst hq; exact h.column
  have hqon : q.lcdc.getLsbD 7 = true := by subst hq; exact hon
  have hqp : match q.mode with
      | .oamScan => q.dot ≤ 80 ∧ q.ly < 144
      | .drawing => 80 ≤ q.dot ∧ q.dot ≤ 369 ∧ q.ly < 144
      | .hblank => q.dot ≤ 456 ∧ q.ly < 144
      | .vblank => q.dot ≤ 456 ∧ 144 ≤ q.ly ∧ q.ly < 154 := by
    subst hq
    revert hp
    show (match p.mode with
      | .oamScan => p.dot < 80 ∧ p.ly < 144
      | .drawing => 80 ≤ p.dot ∧ p.dot < 369 ∧ p.ly < 144
      | .hblank => p.dot < 456 ∧ p.ly < 144
      | .vblank => p.dot < 456 ∧ 144 ≤ p.ly ∧ p.ly < 154) → (match p.mode with
      | .oamScan => p.dot + 1 ≤ 80 ∧ p.ly < 144
      | .drawing => 80 ≤ p.dot + 1 ∧ p.dot + 1 ≤ 369 ∧ p.ly < 144
      | .hblank => p.dot + 1 ≤ 456 ∧ p.ly < 144
      | .vblank => p.dot + 1 ≤ 456 ∧ 144 ≤ p.ly ∧ p.ly < 154)
    cases p.mode <;> dsimp only <;> omega
  clear hq hp hb
  unfold Ppu.dotStep
  split
  · next hm =>
    rw [hm] at hqp
    dsimp only at hqp
    split
    · next hd =>
      refine Ppu.Bounds.inv ?_ ((Ppu.placed_on ?_).2 ?_) (Nat.zero_le 160)
      · exact ⟨Ppu.buildSprites_length mem q, Nat.zero_le 16, Nat.zero_le 8, hqb.4, hqb.5⟩
      · exact hqon
      · exact ⟨by show 80 ≤ q.dot; omega, by show q.dot < 369; omega, hqp.2⟩
    · next hd =>
      refine hqb.inv ((Ppu.placed_on ?_).2 ?_) hqc
      · exact hqon
      rw [hm]
      dsimp only
      omega
  · next hm =>
    rw [hm] at hqp
    dsimp only at hqp
    have hdr := q.renderDot_draws mem len
    have hrb := Ppu.renderDot_bounds mem len hqb
    have hrc := Ppu.renderDot_lx mem len hqc
    have hron : (q.renderDot mem len).lcdc.getLsbD 7 = true := by rw [hdr.lcdc]; exact hqon
    split
    · refine Ppu.Bounds.inv (hrb.of_eq rfl rfl rfl rfl) ((Ppu.placed_on ?_).2 ?_) hrc
      · exact hron
      exact ⟨by show (q.renderDot mem len).dot < 456; rw [hdr.dot]; omega,
        by show (q.renderDot mem len).ly < 144; rw [hdr.ly]; exact hqp.2.2⟩
    · next hdone =>
      refine hrb.inv ((Ppu.placed_on ?_).2 ?_) hrc
      · exact hron
      rw [hdr.mode, hm]
      dsimp only
      rw [hdr.dot, hdr.ly]
      have : (q.renderDot mem len).dot ≠ 369 := by
        intro hc
        apply hdone
        unfold Ppu.drawingDone
        split <;> simp [hc]
      rw [hdr.dot] at this
      omega
  · next hm =>
    rw [hm] at hqp
    dsimp only at hqp
    split
    · next hd =>
      refine Ppu.Bounds.inv (hqb.of_eq rfl rfl rfl rfl) ((Ppu.placed_on ?_).2 ?_) hqc
      · exact hqon
      rw [Ppu.startLine_eq]
      dsimp only
      split
      · next hc =>
        split at hc
        · cases hc
        · exact ⟨by omega, by omega⟩
      · next hc => split at hc <;> cases hc
      · next hc => split at hc <;> cases hc
      · next hc =>
        split at hc
        · exact ⟨by omega, by omega, by omega⟩
        · cases hc
    · next hd =>
      refine hqb.inv ((Ppu.placed_on ?_).2 ?_) hqc
      · exact hqon
      rw [hm]
      dsimp only
      omega
  · next hm =>
    rw [hm] at hqp
    dsimp only at hqp
    split
    · next hd =>
      split
      · refine Ppu.Bounds.inv (hqb.of_eq rfl rfl rfl rfl) ((Ppu.placed_on ?_).2 ?_) hqc
        · exact hqon
        exact ⟨by show 0 < 80; omega, by show 0 < 144; omega⟩
      · next hl =>
        refine Ppu.Bounds.inv (hqb.of_eq rfl rfl rfl rfl) ((Ppu.placed_on ?_).2 ?_) hqc
        · exact hqon
        show (match q.mode with
          | .oamScan => 0 < 80 ∧ q.ly + 1 < 144
          | .drawing => 80 ≤ 0 ∧ 0 < 369 ∧ q.ly + 1 < 144
          | .hblank => 0 < 456 ∧ q.ly + 1 < 144
          | .vblank => 0 < 456 ∧ 144 ≤ q.ly + 1 ∧ q.ly + 1 < 154)
        rw [hm]
        dsimp only
        omega
    · next hd =>
      refine hqb.inv ((Ppu.placed_on ?_).2 ?_) hqc
      · exact hqon
      rw [hm]
      dsimp only
      omega

theorem Ppu.tick_inv (mem : Memory) (len : Option Nat) {p : Ppu} (h : p.Inv) : (p.tick mem len).1.Inv := by
  unfold Ppu.tick
  split
  · next hon => exact Ppu.dotStep_inv mem len hon h
  · exact h

theorem Ppu.advance_inv (mem : Memory) (len : Option Nat) (n : Nat) {p : Ppu} (m : BitVec 5) (h : p.Inv) :
    (Ppu.advance mem len n p m).1.Inv := by
  induction n generalizing p m with
  | zero => exact h
  | succ n ih => rw [Ppu.advance]; exact ih _ (Ppu.tick_inv mem len h)

theorem Ppu.writeLcdc_inv {p : Ppu} (v : Byte) (h : p.Inv) : (p.writeLcdc v).1.Inv := by
  have hb := h.bounds
  unfold Ppu.writeLcdc
  split
  · next hc =>
    simp only [Bool.and_eq_true, Bool.not_eq_true'] at hc
    refine Ppu.Bounds.inv (hb.of_eq rfl rfl rfl rfl) ?_ h.column
    simp [Ppu.placed]
  · split
    · next hc =>
      simp only [Bool.and_eq_true, Bool.not_eq_true'] at hc
      refine Ppu.Bounds.inv (hb.of_eq rfl rfl rfl rfl) ?_ h.column
      refine (Ppu.placed_on ?_).2 ?_
      · exact hc.2
      exact ⟨by show 0 < 80; omega, by show 0 < 144; omega⟩
    · next h1 h2 =>
      refine Ppu.Bounds.inv (hb.of_eq rfl rfl rfl rfl) ?_ h.column
      have hsame : v.getLsbD 7 = p.lcdc.getLsbD 7 := by
        revert h1 h2
        cases v.getLsbD 7 <;> cases p.lcdc.getLsbD 7 <;> simp
      have := h.placed
      unfold Ppu.placed at this ⊢
      dsimp only
      rw [hsame]
      exact this

end Sys2Proof.Machine
end

