-- ==== Sys2Proof/Laws/Inv.lean ====
section
/-! SUPPORT. Every shared operation keeps the invariant `State.Inv`: the updates of each piece of the state,
a bus write, a push, an interrupt dispatch, the device advance, and what a step does after `exec`. -/

namespace Sys2Proof.Machine

/-- The invariant reads nothing of the registers, SP, PC, the control bits of the CPU, the interrupt bytes, the
cartridge and the counter. -/
theorem State.Inv.of_eq {s t : State} (h : s.Inv) (h1 : t.mem = s.mem) (h2 : t.f.extractLsb' 0 4 = 0#4)
    (h3 : t.cpuMode = s.cpuMode) (h4 : t.dmaRemaining = s.dmaRemaining) (h5 : t.timer = s.timer)
    (h6 : t.ppu = s.ppu) (h7 : t.frameElapsed = s.frameElapsed)
    (h8 : t.params = s.params) : t.Inv :=
  ⟨h1 ▸ h.1, h1 ▸ h.2, h2, h3.trans h.4, h4 ▸ h.5, h5 ▸ h.6, h6 ▸ h.7, h7 ▸ h.8, h8 ▸ h.9⟩

theorem State.Inv.store {s : State} (h : s.Inv) (k : Nat) (v : Byte) (hk : k < 0x10000) : (s.store k v).Inv := by
  refine ⟨Memory.wf_write _ _ h.1, fun cell hc => ?_, h.3, h.4, h.5, h.6, h.7, h.8, h.9⟩
  rcases Memory.mem_write hc with hc | hc
  · exact h.2 cell hc
  · subst hc; exact hk

theorem State.Inv.withTimer {s : State} (h : s.Inv) (r : Timer × Bool) (hr : r.1.reloadDelay ≤ 4) :
    (s.withTimer r).Inv := ⟨h.1, h.2, h.3, h.4, h.5, hr, h.7, h.8, h.9⟩

theorem State.Inv.withPpu {s : State} (h : s.Inv) (r : Ppu × BitVec 5) (hr : r.1.Inv) : (s.withPpu r).Inv :=
  ⟨h.1, h.2, h.3, h.4, h.5, h.6, hr, h.8, h.9⟩

/-- A new value in a register of the video controller that the invariant does not read. -/
theorem Ppu.Inv.of_eq {p q : Ppu} (h : p.Inv) (h0 : q.lcdc = p.lcdc) (h1 : q.mode = p.mode) (h2 : q.dot = p.dot)
    (h3 : q.ly = p.ly) (h4 : q.lx = p.lx) (h5 : q.sprites = p.sprites) (h6 : q.bgFifo = p.bgFifo)
    (h7 : q.spriteFifo = p.spriteFifo) (h8 : q.framebuffer = p.framebuffer) : q.Inv := by
  refine (h.bounds.of_eq h5 h6 h7 h8).inv ?_ (h4 ▸ h.column)
  have := h.placed
  unfold Ppu.placed at *
  rw [h0, h1, h2, h3]
  exact this

theorem State.Inv.setPpu {s : State} (h : s.Inv) {q : Ppu} (hq : q.Inv) : State.Inv { s with ppu := q } :=
  ⟨h.1, h.2, h.3, h.4, h.5, h.6, hq, h.8, h.9⟩

theorem State.Inv.setTimer {s : State} (h : s.Inv) {t : Timer} (ht : t.reloadDelay ≤ 4) :
    State.Inv { s with timer := t } := ⟨h.1, h.2, h.3, h.4, h.5, ht, h.7, h.8, h.9⟩

theorem State.Inv.dmaTrigger {s : State} (h : s.Inv) (v : Byte) : (s.dmaTrigger v).Inv := by
  have hm := dmaCopy_mem 160 0 v s h.1
  obtain ⟨m, he⟩ : ∃ m, s.dmaCopy 160 0 v = { s with mem := m } := ⟨_, dmaCopy_eq 160 0 v s⟩
  unfold State.dmaTrigger
  rw [he] at hm ⊢
  refine ⟨hm.1, fun cell hc => ?_, h.3, h.4, Nat.le_refl 640, h.6, h.7, h.8, h.9⟩
  rcases hm.2.2 cell hc with hc | hc
  · exact h.2 cell hc
  · omega

theorem State.Inv.ioWrite {s : State} (h : s.Inv) (n : Nat) (v : Byte) (hn : n < 0x10000) : (s.ioWrite n v).Inv := by
  unfold State.ioWrite
  apply ite_holds (P := State.Inv)
  · intro _; exact h.store n v hn
  intro _
  apply ite_holds (P := State.Inv)
  · intro _; exact h.withTimer _ (Timer.writeDiv_reload _ h.6)
  intro _
  apply ite_holds (P := State.Inv)
  · intro _; exact h.setTimer (Nat.zero_le 4)
  intro _
  apply ite_holds (P := State.Inv)
  · intro _; exact h.setTimer h.6
  intro _
  apply ite_holds (P := State.Inv)
  · intro _; exact h.withTimer _ (Timer.writeTac_reload _ _ h.6)
  intro _
  apply ite_holds (P := State.Inv)
  · intro _; exact h.of_eq rfl h.3 rfl rfl rfl rfl rfl rfl
  intro _
  apply ite_holds (P := State.Inv)
  · intro _; exact h.withPpu _ (Ppu.writeLcdc_inv v h.7)
  intro _
  iterate 4
    apply ite_holds (P := State.Inv)
    · intro _; exact h.setPpu (h.7.of_eq rfl rfl rfl rfl rfl rfl rfl rfl rfl)
    intro _
  apply ite_holds (P := State.Inv)
  · intro _; exact h.dmaTrigger v
  intro _
  iterate 5
    apply ite_holds (P := State.Inv)
    · intro _; exact h.setPpu (h.7.of_eq rfl rfl rfl rfl rfl rfl rfl rfl rfl)
    intro _
  apply ite_holds (P := State.Inv)
  · intro _
    apply ite_holds (P := State.Inv)
    · intro _; exact h
    · intro _; exact h.of_eq rfl h.3 rfl rfl rfl rfl rfl rfl
  · intro _; exact h

theorem State.Inv.cartWrite {s : State} (h : s.Inv) (x : Word) (v : Byte) : (s.cartWrite x v).Inv := by
  unfold State.cartWrite
  split
  · exact h
  · exact h.of_eq rfl h.3 rfl rfl rfl rfl rfl rfl

theorem State.Inv.cartWriteSram {s : State} (h : s.Inv) (x : Word) (v : Byte) : (s.cartWriteSram x v).Inv := by
  unfold State.cartWriteSram
  split
  · exact h
  · exact h.of_eq rfl h.3 rfl rfl rfl rfl rfl rfl

/-- A bus write keeps the invariant. -/
theorem State.Inv.busWrite {s : State} (h : s.Inv) (x : Word) (v : Byte) : (s.busWrite x v).Inv := by
  have hx : x.toNat < 65536 := x.isLt
  unfold State.busWrite State.regionWrite
  apply ite_holds (P := State.Inv)
  · intro _; exact h
  intro _
  apply ite_holds (P := State.Inv)
  · intro _; exact h.cartWrite x v
  intro _
  apply ite_holds (P := State.Inv)
  · intro _
    apply ite_holds (P := State.Inv)
    · intro _; exact h
    · intro _; exact h.store _ v hx
  intro _
  apply ite_holds (P := State.Inv)
  · intro _; exact h.cartWriteSram x v
  intro _
  apply ite_holds (P := State.Inv)
  · intro _; exact h.store _ v hx
  intro _
  apply ite_holds (P := State.Inv)
  · intro _
    refine h.store _ v ?_
    unfold echoKey
    cases s.params.echoHigh <;> dsimp only <;> omega
  intro _
  apply ite_holds (P := State.Inv)
  · intro _
    apply ite_holds (P := State.Inv)
    · intro _; exact h
    · intro _; exact h.store _ v hx
  intro _
  apply ite_holds (P := State.Inv)
  · intro _; exact h
  intro _
  apply ite_holds (P := State.Inv)
  · intro _; exact h.ioWrite _ v hx
  intro _
  apply ite_holds (P := State.Inv)
  · intro _; exact h.store _ v hx
  · intro _; exact h.of_eq rfl h.3 rfl rfl rfl rfl rfl rfl

/-- A push keeps the invariant. -/
theorem State.Inv.push16 {s : State} (h : s.Inv) (w : Word) : (s.push16 w).Inv := by
  have h8 : ∀ {u : State}, u.Inv → ∀ b, (u.push8 b).Inv := fun {u} hu b =>
    (hu.of_eq (t := { u with sp := u.sp - 1#16 }) rfl hu.3 rfl rfl rfl rfl rfl rfl).busWrite _ _
  exact h8 (h8 h _) _

/-- What a dispatch does after its push keeps the invariant. -/
theorem State.Inv.enterHandler {s : State} (h : s.Inv) (i : Nat) (w : Word) :
    State.Inv { s.clearRequest i with pc := w } := h.of_eq rfl h.3 rfl rfl rfl rfl rfl rfl

/-- An interrupt dispatch keeps the invariant. -/
theorem State.Inv.dispatchTo {s : State} (h : s.Inv) (i : Nat) : (s.dispatchTo i).Inv :=
  ((h.of_eq (t := { s with ime := false, imePending := false, halted := false })
    rfl h.3 rfl rfl rfl rfl rfl rfl).push16 s.pc).enterHandler i _

theorem State.Inv.promote {s : State} (h : s.Inv) (pend0 : Bool) : (s.promote pend0).Inv := by
  unfold State.promote
  split
  · exact h.of_eq rfl h.3 rfl rfl rfl rfl rfl rfl
  · exact h

theorem State.Inv.bumpFree {s : State} (h : s.Inv) (k : Nat) : (s.bumpFree k).Inv :=
  h.of_eq rfl h.3 rfl rfl rfl rfl rfl rfl

theorem frameAfter_lt {e c : Nat} (he : e < 70224) (hc : c ≤ 70224) : frameAfter e c < 70224 := by
  unfold frameAfter; split <;> omega

/-- The device advance keeps the invariant. -/
theorem State.Inv.advance {s : State} (h : s.Inv) (c : Nat) (hc : c ≤ 70224) : (s.advance c).Inv := by
  unfold State.advance
  refine ⟨h.1, h.2, h.3, h.4, ?_, ?_, ?_, frameAfter_lt h.8 hc, h.9⟩
  · show s.dmaRemaining - c ≤ 640
    have := h.5
    omega
  · exact (Timer.advance_keeps c s.timer false).2.2.2 h.6
  · exact Ppu.advance_inv _ _ c _ h.7

/-- What follows `exec` in a step keeps the invariant. -/
theorem State.Inv.finish {s : State} (h : s.Inv) (pend0 : Bool) (m : Nat) (hm : m ≤ 6) : (s.finish pend0 m).Inv :=
  ((h.promote pend0).advance (4 * m) (by omega)).bumpFree 2

theorem State.Inv.setFlags {s : State} (h : s.Inv) (z n hh c : Bool) : (s.setFlags z n hh c).Inv :=
  h.of_eq rfl (packFlags_low z n hh c) rfl rfl rfl rfl rfl rfl

theorem State.Inv.setOp8 {s : State} (h : s.Inv) (o : Opnd) (v : Byte) : (s.setOp8 o v).Inv := by
  cases o
  case indHL => exact h.busWrite _ v
  all_goals exact h.of_eq rfl h.3 rfl rfl rfl rfl rfl rfl

theorem State.Inv.putResult {s : State} (h : s.Inv) (o : Opnd) (r : AluResult) : (s.putResult o r).Inv :=
  (h.setOp8 o r.res).setFlags _ _ _ _

end Sys2Proof.Machine
end

