-- ==== Sys2Proof/Machine/Driver.lean ====
section
/-! DEFINITION. The driver's entry points (spec/60_exceptions.md R370, R371): `run_one_frame()` and
`get_framebuffer()`; `reset()` is `State.hostReset` in Ops.lean. -/

namespace Sys2Proof.Machine

/-- The loop of `run_one_frame()`: steps until the driver's count has passed 70224 and the excess is
carried over, which is when the count falls; at most `fuel` steps (R370). -/
def runFrameLoop : Nat → State → Out
  | 0, s => .next s
  | fuel + 1, s =>
    match step s with
    | .next t => if t.frameElapsed < s.frameElapsed then .next t else runFrameLoop fuel t
    | .fault r => .fault r
    | .refused r => .refused r

/-- `run_one_frame()`: a step takes at least 4 T-cycles, so 17556 steps are enough (R370). -/
def runOneFrame (s : State) : Out := runFrameLoop 17556 s

/-- `get_framebuffer()` (R371): the shade 0..3 at a column 0..159 and a line 0..143. R371's framebuffer is RGBA with
the byte layout left to the consumer and no colour values given; that the model answers the shade's number
is its own choice: DESIGN CHOICE, log 31. A pixel nothing has drawn is white, log 28. -/
def State.getFramebuffer (s : State) (column line : Nat) : Byte := s.ppu.pixel column line

end Sys2Proof.Machine
end

