-- ==== Sys2Proof/Tests/Slice0.lean ====
section
/-! SUPPORT. The package's own tests: ill-formed terms that WellFormed refuses, words of every family written
from the encodings of spec/30_encoding.md, single instructions with the operands and results of the
"Example" and "Corner cases" lines of the spec's rules, single steps of the machine, and for every statement
that has hypotheses a state that meets them. Each test's comment or name gives the rule its expected
result comes from. -/

namespace Sys2Proof.Tests

open Sys2Proof.Machine

/-- The outcome is a next state with a property. -/
def nextHas (r : Out) (p : State → Bool) : Bool :=
  match r with
  | .next t => p t
  | _ => false

/-- A machine with the display off, code to be placed at 0xC000 and the stack below 0xDFFE. -/
def base : State := { State.reset with pc := 0xC000#16, sp := 0xDFFE#16 }

/-- `base` with bytes at 0xC000, 0xC001, 0xC002 that are not zero. -/
def code3 (b0 b1 b2 : Byte) : State :=
  { base with mem := [(0xC000, b0), (0xC001, b1), (0xC002, b2)] }

/-! WellFormed: its one check refuses the prefix row, whatever its operand, and nothing else. -/

theorem test_wellFormed_refuses_prefix : (Instr.prefix_CB 0x37#8).wellFormed = false := by decide
theorem test_wellFormed_refuses_prefix_of_prefix : (Instr.prefix_CB 0xCB#8).wellFormed = false := by decide
theorem test_wellFormed_admits_cb_page : Instr.swap_A.wellFormed = true := by decide
theorem test_wellFormed_admits_undefined : Instr.undefined_DD.wellFormed = true := by decide
theorem test_wellFormed_admits_stop : (Instr.stop 0xFF#8).wellFormed = true := by decide

/-! Decoding: words bit by bit, `xx yyy zzz` (R100), from R113 to R117. -/

-- block 0: z = 1, q = 0, p = 2 and nn low byte first (R113, R108)
theorem test_decode_ld_HL_nn : decode [0b00100001#8, 0x34#8, 0x12#8] = .ok (.ld_HL_nn 0x1234#16, []) := rfl
theorem test_decode_ld_inn_SP : decode [0b00001000#8, 0x00#8, 0xC1#8] = .ok (.ld_inn_SP 0xC100#16, []) := rfl
theorem test_decode_stop : decode [0b00010000#8, 0x5A#8, 0x01#8] = .ok (.stop 0x5A#8, [0x01#8]) := rfl
theorem test_decode_jr : decode [0b00011000#8, 0xFB#8] = .ok (.jr_e 0xFB#8, []) := rfl
theorem test_decode_jr_NC : decode [0b00110000#8, 0x02#8] = .ok (.jr_NC_e 0x02#8, []) := rfl
theorem test_decode_add_HL_SP : decode [0b00111001#8] = .ok (.add_HL_SP, []) := rfl
theorem test_decode_ld_iHLm_A : decode [0b00110010#8] = .ok (.ld_iHLm_A, []) := rfl
theorem test_decode_ld_A_iDE : decode [0b00011010#8] = .ok (.ld_A_iDE, []) := rfl
theorem test_decode_dec_SP : decode [0b00111011#8] = .ok (.dec_SP, []) := rfl
theorem test_decode_inc_iHL : decode [0b00110100#8] = .ok (.inc_iHL, []) := rfl
theorem test_decode_dec_L : decode [0b00101101#8] = .ok (.dec_L, []) := rfl
theorem test_decode_ld_iHL_n : decode [0b00110110#8, 0x99#8] = .ok (.ld_iHL_n 0x99#8, []) := rfl
theorem test_decode_daa : decode [0b00100111#8] = .ok (.daa, []) := rfl
-- block 1 (R114)
theorem test_decode_ld_D_iHL : decode [0b01010110#8] = .ok (.ld_D_iHL, []) := rfl
theorem test_decode_ld_iHL_E : decode [0b01110011#8] = .ok (.ld_iHL_E, []) := rfl
theorem test_decode_halt : decode [0b01110110#8] = .ok (.halt, []) := rfl
-- block 2 (R115)
theorem test_decode_sbc_A_H : decode [0b10011100#8] = .ok (.sbc_A_H, []) := rfl
theorem test_decode_cp_iHL : decode [0b10111110#8] = .ok (.cp_iHL, []) := rfl
-- block 3 (R116)
theorem test_decode_ret_C : decode [0b11011000#8] = .ok (.ret_C, []) := rfl
theorem test_decode_ldh_in_A : decode [0b11100000#8, 0x46#8] = .ok (.ldh_in_A 0x46#8, []) := rfl
theorem test_decode_ld_HL_SP_e : decode [0b11111000#8, 0x08#8] = .ok (.ld_HL_SP_e 0x08#8, []) := rfl
theorem test_decode_pop_AF : decode [0b11110001#8] = .ok (.pop_AF, []) := rfl
theorem test_decode_reti : decode [0b11011001#8] = .ok (.reti, []) := rfl
theorem test_decode_jp_Z_nn : decode [0b11001010#8, 0x00#8, 0x80#8] = .ok (.jp_Z_nn 0x8000#16, []) := rfl
theorem test_decode_ld_A_iC : decode [0b11110010#8] = .ok (.ld_A_iC, []) := rfl
theorem test_decode_ei : decode [0b11111011#8] = .ok (.ei, []) := rfl
theorem test_decode_call_NZ : decode [0b11000100#8, 0x00#8, 0x30#8] = .ok (.call_NZ_nn 0x3000#16, []) := rfl
theorem test_decode_push_DE : decode [0b11010101#8] = .ok (.push_DE, []) := rfl
theorem test_decode_xor_n : decode [0b11101110#8, 0x0F#8] = .ok (.xor_n 0x0F#8, []) := rfl
theorem test_decode_rst_28H : decode [0b11101111#8] = .ok (.rst_28H, []) := rfl
theorem test_decode_undefined_E4 : decode [0b11100100#8] = .ok (.undefined_E4, []) := rfl
-- the CB page (R117): class, y, z
theorem test_decode_sra_A : decode [0xCB#8, 0b00101111#8] = .ok (.sra_A, []) := rfl
theorem test_decode_bit_4_L : decode [0xCB#8, 0b01100101#8] = .ok (.bit_4_L, []) := rfl
theorem test_decode_res_3_iHL : decode [0xCB#8, 0b10011110#8] = .ok (.res_3_iHL, []) := rfl
theorem test_decode_set_7_B : decode [0xCB#8, 0b11111000#8] = .ok (.set_7_B, []) := rfl
-- too few bytes
theorem test_decode_empty : decode [] = .error .noOpcode := rfl
theorem test_decode_truncated : decode [0xCD#8, 0x34#8] = .error (.truncated 0xCD#8 3) := rfl
-- the table's numbering: byte 0 least significant, a CB-page row over `byte0 ++ byte1` (R121)
theorem test_table_word_ld_A_n : decodeTableWord 8 0x3E = some (.ld_A_n 0x00#8) := by decide
theorem test_table_word_with_operand : decodeTableWord 24 0x1234C3 = some (.jp_nn 0x1234#16) := by decide
theorem test_table_word_cb_page : decodeTableWord 16 0xCB37 = some .swap_A := by decide
theorem test_table_word_prefix_row : decodeTableWord 8 0xCB = some (.prefix_CB 0x00#8) := by decide

/-! Single instructions, by the Example lines of the rules. -/

-- R131
theorem test_ld_inn_SP : nextHas (exec (.ld_inn_SP 0xC100#16) { base with sp := 0xFFF8#16 })
    (fun t => t.mem == [(0xC100, 0xF8#8), (0xC101, 0xFF#8)]) = true := by decide
-- R131 at the top of memory: the low byte is the interrupt-enable byte, the high byte goes to the cartridge
theorem test_ld_inn_SP_top : nextHas (exec (.ld_inn_SP 0xFFFF#16) { base with sp := 0x1234#16 })
    (fun t => t.ie == 0x34#8 && t.mem == []) = true := by decide
-- R133
theorem test_jr_back : nextHas (exec (.jr_e 0xFB#8) { base with pc := 0x0202#16 })
    (fun t => t.pc == 0x01FD#16) = true := by decide
-- R134
theorem test_jr_NZ_not_taken : nextHas (exec (.jr_NZ_e 0x10#8) { base with pc := 0x0302#16, f := 0x80#8 })
    (fun t => t.pc == 0x0302#16) = true := by decide
theorem test_jr_NZ_taken : nextHas (exec (.jr_NZ_e 0x10#8) { base with pc := 0x0302#16 })
    (fun t => t.pc == 0x0312#16) = true := by decide
-- R135
theorem test_ld_HL_nn : nextHas (exec (.ld_HL_nn 0x1234#16) base)
    (fun t => t.h == 0x12#8 && t.l == 0x34#8) = true := by decide
-- R137, the source's own example, and the wrap of its corner case
theorem test_add_HL_BC : nextHas (exec .add_HL_BC { base with h := 0x0F#8, l := 0xFF#8, c := 0x01#8 })
    (fun t => t.hl == 0x1000#16 && t.f == 0x20#8) = true := by decide
theorem test_add_HL_BC_wraps : nextHas (exec .add_HL_BC { base with h := 0xFF#8, l := 0xFF#8, c := 0x01#8 })
    (fun t => t.hl == 0x0000#16 && t.f == 0x30#8) = true := by decide
-- R140 at the top: the increment wraps
theorem test_ld_iHLp_A : nextHas (exec .ld_iHLp_A { base with a := 0x1F#8, h := 0xFF#8, l := 0xFF#8 })
    (fun t => t.ie == 0x1F#8 && t.hl == 0x0000#16) = true := by decide
-- R145
theorem test_ld_A_iHLm : nextHas (exec .ld_A_iHLm
      { base with h := 0xC0#8, l := 0x01#8, mem := [(0xC001, 0x0A#8)] })
    (fun t => t.a == 0x0A#8 && t.hl == 0xC000#16) = true := by decide
-- R146, R147
theorem test_inc_BC : nextHas (exec .inc_BC { base with c := 0xFF#8, f := 0xF0#8 })
    (fun t => t.bc == 0x0100#16 && t.f == 0xF0#8) = true := by decide
theorem test_dec_DE_wraps : nextHas (exec .dec_DE base) (fun t => t.de == 0xFFFF#16 && t.f == 0#8) = true := by
  decide
-- R148, R149
theorem test_inc_B : nextHas (exec .inc_B { base with b := 0x0F#8, f := 0x10#8 })
    (fun t => t.b == 0x10#8 && t.f == 0x30#8) = true := by decide
theorem test_inc_iHL : nextHas (exec .inc_iHL { base with h := 0xC0#8, mem := [(0xC000, 0xFF#8)] })
    (fun t => t.mem == [] && t.f == 0xA0#8) = true := by decide
-- R150, R151
theorem test_dec_C : nextHas (exec .dec_C { base with c := 0x01#8 })
    (fun t => t.c == 0x00#8 && t.f == 0xC0#8) = true := by decide
theorem test_dec_iHL : nextHas (exec .dec_iHL { base with h := 0xC0#8, mem := [(0xC000, 0x10#8)] })
    (fun t => t.mem == [(0xC000, 0x0F#8)] && t.f == 0x60#8) = true := by decide
-- R153
theorem test_ld_iHL_n : nextHas (exec (.ld_iHL_n 0x99#8) { base with h := 0xC0#8, l := 0x10#8 })
    (fun t => t.mem == [(0xC010, 0x99#8)]) = true := by decide
-- R154 to R157
theorem test_rlca : nextHas (exec .rlca { base with a := 0x85#8 })
    (fun t => t.a == 0x0B#8 && t.f == 0x10#8) = true := by decide
theorem test_rrca : nextHas (exec .rrca { base with a := 0x3B#8 })
    (fun t => t.a == 0x9D#8 && t.f == 0x10#8) = true := by decide
theorem test_rla : nextHas (exec .rla { base with a := 0x95#8, f := 0x10#8 })
    (fun t => t.a == 0x2B#8 && t.f == 0x10#8) = true := by decide
theorem test_rra_zero_clears_z : nextHas (exec .rra { base with a := 0x01#8 })
    (fun t => t.a == 0x00#8 && t.f == 0x10#8) = true := by decide
-- R158
theorem test_daa : nextHas (exec .daa { base with a := 0x3C#8 })
    (fun t => t.a == 0x42#8 && t.f == 0x00#8) = true := by decide
theorem test_daa_9A : nextHas (exec .daa { base with a := 0x9A#8 })
    (fun t => t.a == 0x00#8 && t.f == 0x90#8) = true := by decide
-- R159 to R161
theorem test_cpl : nextHas (exec .cpl { base with a := 0x35#8 })
    (fun t => t.a == 0xCA#8 && t.f == 0x60#8) = true := by decide
theorem test_scf : nextHas (exec .scf { base with f := 0xE0#8 }) (fun t => t.f == 0x90#8) = true := by decide
theorem test_ccf : nextHas (exec .ccf { base with f := 0x70#8 }) (fun t => t.f == 0x00#8) = true := by decide
-- R171, R172, R174
theorem test_ld_B_C : nextHas (exec .ld_B_C { base with c := 0x9C#8 }) (fun t => t.b == 0x9C#8) = true := by
  decide
theorem test_ld_H_iHL : nextHas (exec .ld_H_iHL { base with h := 0xC1#8, l := 0x23#8, mem := [(0xC123, 0x5C#8)] })
    (fun t => t.hl == 0x5C23#16) = true := by decide
theorem test_ld_iHL_L : nextHas (exec .ld_iHL_L { base with h := 0xC2#8, l := 0x07#8 })
    (fun t => t.mem == [(0xC207, 0x07#8)]) = true := by decide
-- R184 to R199
theorem test_add_A_B : nextHas (exec .add_A_B { base with a := 0x3A#8, b := 0xC6#8 })
    (fun t => t.a == 0x00#8 && t.f == 0xB0#8) = true := by decide
theorem test_adc_A_iHL : nextHas (exec .adc_A_iHL
      { base with a := 0xE1#8, f := 0x10#8, h := 0xC0#8, mem := [(0xC000, 0x1E#8)] })
    (fun t => t.a == 0x00#8 && t.f == 0xB0#8) = true := by decide
theorem test_sub_iHL : nextHas (exec .sub_iHL { base with a := 0x3E#8, h := 0xC0#8, mem := [(0xC000, 0x40#8)] })
    (fun t => t.a == 0xFE#8 && t.f == 0x50#8) = true := by decide
theorem test_sbc_borrow_of_256 : nextHas (exec .sbc_A_B { base with a := 0x00#8, b := 0xFF#8, f := 0x10#8 })
    (fun t => t.a == 0x00#8 && t.f == 0xF0#8) = true := by decide
theorem test_and_L : nextHas (exec .and_L { base with a := 0x5A#8, l := 0x3F#8 })
    (fun t => t.a == 0x1A#8 && t.f == 0x20#8) = true := by decide
theorem test_xor_A : nextHas (exec .xor_A { base with a := 0x77#8, f := 0x70#8 })
    (fun t => t.a == 0x00#8 && t.f == 0x80#8) = true := by decide
theorem test_or_C : nextHas (exec .or_C { base with a := 0x5A#8, c := 0x03#8 })
    (fun t => t.a == 0x5B#8 && t.f == 0x00#8) = true := by decide
theorem test_cp_B : nextHas (exec .cp_B { base with a := 0x3C#8, b := 0x2F#8 })
    (fun t => t.a == 0x3C#8 && t.f == 0x60#8) = true := by decide
-- R236, R238
theorem test_adc_A_n : nextHas (exec (.adc_A_n 0x3B#8) { base with a := 0xE1#8, f := 0x10#8 })
    (fun t => t.a == 0x1D#8 && t.f == 0x10#8) = true := by decide
theorem test_sbc_A_n : nextHas (exec (.sbc_A_n 0x3A#8) { base with a := 0x3B#8, f := 0x10#8 })
    (fun t => t.a == 0x00#8 && t.f == 0xC0#8) = true := by decide
-- R211
theorem test_ret_C_taken : nextHas (exec .ret_C
      { base with sp := 0xDFFC#16, f := 0x10#8, mem := [(0xDFFC, 0x50#8), (0xDFFD, 0x01#8)] })
    (fun t => t.pc == 0x0150#16 && t.sp == 0xDFFE#16) = true := by decide
theorem test_ret_C_not_taken : nextHas (exec .ret_C { base with sp := 0xDFFC#16 })
    (fun t => t.pc == 0xC000#16 && t.sp == 0xDFFC#16) = true := by decide
-- R212, R214
theorem test_ldh_FF_A : nextHas (exec (.ldh_in_A 0xFF#8) { base with a := 0x05#8 })
    (fun t => t.ie == 0x05#8) = true := by decide
theorem test_ldh_A_0F : nextHas (exec (.ldh_A_in 0x0F#8) { base with requested := 0b00100#5 })
    (fun t => t.a == 0xE4#8) = true := by decide
-- R213, R215
theorem test_add_SP_minus_one : nextHas (exec (.add_SP_e 0xFF#8) { base with sp := 0x0001#16 })
    (fun t => t.sp == 0x0000#16 && t.f == 0x30#8) = true := by decide
theorem test_ld_HL_SP_e : nextHas (exec (.ld_HL_SP_e 0x08#8) { base with sp := 0xFFF8#16 })
    (fun t => t.hl == 0x0000#16 && t.sp == 0xFFF8#16 && t.f == 0x30#8) = true := by decide
-- R217
theorem test_pop_AF_masks : nextHas (exec .pop_AF
      { base with sp := 0xDFFC#16, mem := [(0xDFFC, 0x5F#8), (0xDFFD, 0x12#8)] })
    (fun t => t.a == 0x12#8 && t.f == 0x50#8 && t.sp == 0xDFFE#16) = true := by decide
-- R219
theorem test_reti : nextHas (exec .reti { base with sp := 0xDFFC#16, mem := [(0xDFFC, 0x34#8), (0xDFFD, 0x02#8)] })
    (fun t => t.pc == 0x0234#16 && t.ime) = true := by decide
-- R220, R221
theorem test_jp_HL : nextHas (exec .jp_HL { base with h := 0xC0#8, l := 0x07#8 }) (fun t => t.pc == 0xC007#16) = true := by
  decide
theorem test_ld_SP_HL : nextHas (exec .ld_SP_HL { base with h := 0xD0#8 }) (fun t => t.sp == 0xD000#16) = true := by
  decide
-- R223
theorem test_ld_iC_A : nextHas (exec .ld_iC_A { base with c := 0x80#8, a := 0x7F#8 })
    (fun t => t.mem == [(0xFF80, 0x7F#8)]) = true := by decide
-- R229, R230
theorem test_di_cancels_ei : nextHas (exec .di { base with ime := true, imePending := true })
    (fun t => !t.ime && !t.imePending) = true := by decide
theorem test_ei_with_ime_does_nothing : nextHas (exec .ei { base with ime := true })
    (fun t => t.ime && !t.imePending) = true := by decide
-- R231, R234
theorem test_call_nn : nextHas (exec (.call_nn 0x1234#16) { base with pc := 0x8003#16, sp := 0xFFFE#16 })
    (fun t => t.mem == [(0xFFFC, 0x03#8), (0xFFFD, 0x80#8)] && t.sp == 0xFFFC#16 && t.pc == 0x1234#16) = true := by
  decide
theorem test_call_NZ_not_taken : nextHas (exec (.call_NZ_nn 0x3000#16) { base with f := 0x80#8 })
    (fun t => t.mem == [] && t.sp == 0xDFFE#16 && t.pc == 0xC000#16) = true := by decide
-- R232 at the bottom of memory: the low byte lands on the interrupt-enable byte
theorem test_push_BC_wraps : nextHas (exec .push_BC { base with sp := 0x0001#16, b := 0x3C#8, c := 0x5F#8 })
    (fun t => t.ie == 0x5F#8 && t.sp == 0xFFFF#16 && t.mem == []) = true := by decide
-- R250
theorem test_rst_28H : nextHas (exec .rst_28H { base with pc := 0x0151#16 })
    (fun t => t.mem == [(0xDFFC, 0x51#8), (0xDFFD, 0x01#8)] && t.pc == 0x0028#16) = true := by decide
-- R262 to R283
theorem test_rlc_B : nextHas (exec .rlc_B { base with b := 0x85#8 })
    (fun t => t.b == 0x0B#8 && t.f == 0x10#8) = true := by decide
theorem test_rr_iHL : nextHas (exec .rr_iHL { base with h := 0xC0#8, mem := [(0xC000, 0x8A#8)] })
    (fun t => t.mem == [(0xC000, 0x45#8)] && t.f == 0x00#8) = true := by decide
theorem test_sla_D : nextHas (exec .sla_D { base with d := 0x80#8 })
    (fun t => t.d == 0x00#8 && t.f == 0x90#8) = true := by decide
theorem test_sra_A : nextHas (exec .sra_A { base with a := 0x8A#8 })
    (fun t => t.a == 0xC5#8 && t.f == 0x00#8) = true := by decide
theorem test_swap_A : nextHas (exec .swap_A { base with a := 0xF1#8, f := 0x10#8 })
    (fun t => t.a == 0x1F#8 && t.f == 0x00#8) = true := by decide
theorem test_srl_iHL : nextHas (exec .srl_iHL { base with h := 0xC0#8, mem := [(0xC000, 0xFF#8)] })
    (fun t => t.mem == [(0xC000, 0x7F#8)] && t.f == 0x10#8) = true := by decide
theorem test_bit_7_A : nextHas (exec .bit_7_A { base with a := 0x80#8, f := 0x10#8 })
    (fun t => t.f == 0x30#8) = true := by decide
theorem test_bit_0_iHL : nextHas (exec .bit_0_iHL { base with h := 0xC0#8, mem := [(0xC000, 0xFE#8)] })
    (fun t => t.f == 0xA0#8) = true := by decide
theorem test_res_3_iHL : nextHas (exec .res_3_iHL { base with h := 0xC0#8, mem := [(0xC000, 0xFF#8)], f := 0x80#8 })
    (fun t => t.mem == [(0xC000, 0xF7#8)] && t.f == 0x80#8) = true := by decide
theorem test_set_3_A : nextHas (exec .set_3_A { base with a := 0x80#8 }) (fun t => t.a == 0x88#8) = true := by
  decide
-- R243, R132: the meanings
theorem test_undefined_DD : nextHas (exec .undefined_DD base) (fun t => t.cpuMode == .locked 0xDD#8) = true := by
  decide
theorem test_stop : nextHas (exec (.stop 0x00#8) base) (fun t => t.cpuMode == .stopped) = true := by decide

/-! The dispatcher. -/

-- R71 under both readings of the upper echo
theorem test_echo_wrap : (base.busWrite 0xF123#16 0x77#8).mem = [(0xC123, 0x77#8)] := by decide
theorem test_echo_bank1 : ({ base with params := { Params.default with echoHigh := .bank1 } } : State).busWrite
    0xF123#16 0x77#8 = { base with
      params := { Params.default with echoHigh := .bank1 }, mem := [(0xD123, 0x77#8)] } := by decide
-- R82, R83: VRAM and OAM while DRAWING
theorem test_vram_gated : ({ base with ppu := { base.ppu with mode := .drawing }, mem := [(0x8000, 0x11#8)] } : State).busRead
    0x8000#16 = 0xFF#8 := by decide
theorem test_oam_gated_in_scan : ({ base with ppu := { base.ppu with mode := .oamScan } } : State).busWrite
    0xFE00#16 0x11#8 = { base with ppu := { base.ppu with mode := .oamScan } } := by decide
-- R84: only HRAM answers during the lockout
theorem test_lockout : ({ base with dmaRemaining := 4, mem := [(0xC000, 0x11#8), (0xFF80, 0x22#8)] } : State).busRead
    0xC000#16 = 0xFF#8 ∧ ({ base with dmaRemaining := 4, mem := [(0xC000, 0x11#8), (0xFF80, 0x22#8)] } : State).busRead
    0xFF80#16 = 0x22#8 := by decide
-- R85
theorem test_dma : ({ base with mem := [(0xC000, 0x11#8), (0xC09F, 0x22#8), (0xC0A0, 0x33#8)] } : State).busWrite
    0xFF46#16 0xC0#8 = { base with
      dmaRemaining := 640
      mem := [(0xC000, 0x11#8), (0xC09F, 0x22#8), (0xC0A0, 0x33#8), (0xFE00, 0x11#8), (0xFE9F, 0x22#8)] } := by
  decide +kernel
-- R73: the boot ROM over the first 256 bytes, until a non-zero byte is written to 0xFF50
theorem test_boot_rom : ({ base with
      bootRomEnabled := true, params := { Params.default with bootRom := some [0x31#8, 0xFE#8] } } : State).busRead
    0x0001#16 = 0xFE#8 := by decide

/-! Timer and video controller. -/

-- R344: clearing the divider with the selected bit set clocks TIMA
theorem test_div_write_clocks_tima :
    (({ div16 := 0x0008#16, tima := 0x07#8, tma := 0#8, tac := 0b101#3, reloadDelay := 0 } :
      Timer).writeDiv).1.tima = 0x08#8 := by decide
-- R347, R348: 16 ticks at TAC = 101 overflow 0xFF, and TMA is there four ticks after
theorem test_timer_reload :
    (Timer.advance 20
      { div16 := 0#16, tima := 0xFF#8, tma := 0xAB#8, tac := 0b101#3, reloadDelay := 0 } false) =
    ({ div16 := 20#16, tima := 0xAB#8, tma := 0xAB#8, tac := 0b101#3, reloadDelay := 0 }, true) := by decide
-- R359: enabling the display with the OAM_SCAN select set requests LCD/STAT
theorem test_display_enable : ({ base.ppu with stat := 0x20#8 } : Ppu).writeLcdc 0x80#8 =
    ({ base.ppu with lcdc := 0x80#8, mode := .oamScan, stat := 0x26#8 }, 0b00010#5) := by decide

-- R362: at output column 100 a buffered sprite with X = 40 is not within 8 pixels, the next one with X = 104 is
theorem test_sprite_fetch_skips_a_distant_sprite :
    let far : Sprite := { index := 0, y := 16#8, x := 40#8, tile := 0#8, flags := 0#8 }
    let near : Sprite := { index := 1, y := 16#8, x := 104#8, tile := 0#8, flags := 0#8 }
    let p := Ppu.spriteTrigger { base.ppu with lcdc := 0x93#8, lx := 100, sprites := [far, near] }
    p.spriteFetch.sprite = some near ∧ p.sprites = [far] := by decide

/-! Steps. -/

-- R130: `NOP` at 0xC000 in cleared memory: PC moves by one, four T-cycles
theorem test_step_nop : nextHas (step base) (fun t =>
    t.pc == 0xC001#16 && t.timer.div16 == 4#16 && t.frameElapsed == 4) = true := by decide
-- R415: `CALL Z` taken and not taken, and the CB page's `SET 3,(HL)` and `BIT 3,(HL)`
theorem test_cycle_table : mCycles (.call_Z_nn 0x3000#16) { base with f := 0x80#8 } = 6 ∧
    mCycles (.call_Z_nn 0x3000#16) base = 3 ∧ mCycles .set_3_iHL base = 4 ∧ mCycles .bit_3_iHL base = 3 := by
  decide
-- R416: the counts are configuration; with 3 for `NOP` the step advances the devices by 12 T-cycles
theorem test_step_configured_cycles :
    nextHas (step { base with params := { Params.default with cycles := { CycleTable.default with base := [[3]] } } })
      (fun t => t.timer.div16 == 12#16) = true := by decide
-- R303: the HALT bug, `3E 14` executes as `3E 3E`
theorem test_step_halt_bug : nextHas (step { code3 0x3E#8 0x14#8 0x01#8 with haltBug := true }) (fun t =>
    t.a == 0x3E#8 && t.pc == 0xC001#16 && !t.haltBug) = true := by decide
-- R302, R334: VBlank before Timer
theorem test_step_dispatch : nextHas (step { base with ime := true, requested := 0b00101#5, ie := 0x1F#8 }) (fun t =>
    t.pc == 0x0040#16 && t.requested == 0b00100#5 && !t.ime && t.mem == [(0xDFFD, 0xC0#8)]
      && t.timer.div16 == 20#16) = true := by decide
-- R305
theorem test_step_idle : nextHas (step { base with halted := true }) (fun t =>
    t.halted && t.pc == 0xC000#16 && t.timer.div16 == 4#16) = true := by decide
-- R331, R332
theorem test_step_undefined : (match step (code3 0xDD#8 0x01#8 0x01#8) with
    | .fault r => r == .locked 0xDD#8 | _ => false) = true := by decide
theorem test_step_stop : (match step (code3 0x10#8 0x01#8 0x01#8) with
    | .refused r => r == .stopped | _ => false) = true := by decide
-- the placed word is what the next step runs: from reset at 0x0000, `LD A,0x42`
theorem test_withFetchWord : nextHas (step (State.reset.withFetchWord 16 0x423E)) (fun t =>
    t.a == 0x42#8 && t.pc == 0x0002#16) = true := by decide
-- R371: a pixel no frame has drawn is white
theorem test_framebuffer_white : State.reset.getFramebuffer 159 143 = 0x00#8 := by decide

/-! Witnesses: for each statement with hypotheses, operands and a state that meet all of them. -/

theorem witness_DecodeOfEncodeIsTheInstruction : Instr.swap_A.wellFormed = true := rfl
theorem witness_EncodeOfDecodeIsTheBytes :
    decode [0xCB#8, 0x37#8, 0x00#8] = .ok (.swap_A, [0x00#8]) := rfl
theorem witness_register_operand : Opnd.b ≠ .indHL ∧ Opnd.a ≠ .indHL := by decide
theorem witness_OtherPair : Rp.bc ≠ .sp := by decide
theorem witness_DaaCorrectsBcdArithmetic : (99 : Nat) < 100 ∧ (0 : Nat) < 100 ∧
    ({ base with a := 0x99#8 } : State).a = BitVec.ofNat 8 (16 * (99 / 10) + 99 % 10) := by decide
theorem witness_AddResults : Instr.adc_A_n 0xFF#8 = .adc_A_n 0xFF#8 ∧
    1 = ({ base with f := 0x10#8 } : State).fC.toNat := by decide
theorem witness_AddResults_operand : Instr.add_A_iHL = aluInstr .add .indHL ∧
    0xFF#8 = ({ base with h := 0xFE#8, l := 0xFF#8 } : State).op8 .indHL := by decide
theorem witness_SubtractResults : Instr.cp_A = aluInstr .cp .a ∧ 0x7F#8 = ({ base with a := 0x7F#8 } : State).op8 .a ∧
    Instr.sub_iHL = aluInstr .sub .indHL ∧ Instr.sbc_A_B = aluInstr .sbc .b ∧
    1 = ({ base with f := 0x10#8 } : State).fC.toNat := by decide
theorem witness_LogicResults : Instr.and_A = aluInstr .and .a ∧ Instr.xor_n 0x00#8 = .xor_n 0x00#8 ∧
    Instr.or_iHL = aluInstr .or .indHL := by decide
theorem witness_ZeroAndSubtractFlagLaw : aluImmInstr .cp 0x00#8 = .cp_n 0x00#8 ∧
    exec (aluImmInstr .cp 0x00#8) base = .next { base with f := 0xC0#8 } := ⟨rfl, rfl⟩
theorem witness_StopAndUndefinedResults : Instr.undefined_FD ∈ undefinedInstrs := by decide
theorem witness_Costs : base.params.cycles = .default := rfl
theorem witness_EveryInstructionCompletes : Instr.call_nn 0x0000#16 ∉ undefinedInstrs ∧
    base.params.cycles = .default := by decide
theorem witness_OnlyTheseWriteControlState :
    exec .ei base = .next { base with imePending := true } ∧
    exec .halt base = .next { base with halted := true } ∧
    exec .undefined_D3 base = .next { base with cpuMode := .locked 0xD3#8 } ∧
    exec (.ld_SP_nn 0x0000#16) base = .next { base with sp := 0x0000#16 } ∧
    exec .di { base with ime := true } = .next base := ⟨rfl, rfl, rfl, rfl, rfl⟩
theorem witness_OnlyTheseWriteFlags : exec (decode3 0x00#8 0x00#8 0x00#8) base = .next base ∧
    ¬((0x80#8 ≤ 0x00#8 ∧ 0x00#8 < 0xC0#8) ∨ ((0x00#8 : Byte) = 0xCB#8 ∧ 0x00#8 < 0x80#8)) ∧
    exec (decode3 0x37#8 0x00#8 0x00#8) { base with f := 0x0F#8 } = .next { base with f := 0x10#8 } :=
  ⟨rfl, by decide, rfl⟩

/-- A state in each condition that `BusReadByRegion` names. -/
theorem witness_BusReadByRegion :
    (0 < ({ base with dmaRemaining := 1 } : State).dmaRemaining ∧
      ¬(0xFF80 ≤ (0xFFFF#16 : Word).toNat ∧ (0xFFFF#16 : Word).toNat ≤ 0xFFFE)) ∧
    base.dmaRemaining = 0 ∧ base.cart = .romOnly ∧
    ({ base with cart := .external 3 } : State).cart = .external 3 ∧ base.ppu.mode ≠ .drawing ∧
    base.ppu.mode ≠ .oamScan ∧ base.bootRomEnabled = false := by decide
theorem witness_BusReadByRegion_bounds :
    base.busRead 0x0000#16 = base.mem.read 0x0000 ∧ base.busRead 0x7FFF#16 = base.mem.read 0x7FFF ∧
    base.busRead 0xA000#16 = 0xFF#8 ∧ base.busRead 0xBFFF#16 = 0xFF#8 ∧
    base.busRead 0xEFFF#16 = base.mem.read 0xCFFF ∧ base.busRead 0xF000#16 = base.mem.read 0xC000 ∧
    base.busRead 0xFDFF#16 = base.mem.read 0xCDFF ∧ base.busRead 0xFE9F#16 = base.mem.read 0xFE9F ∧
    base.busRead 0xFEA0#16 = 0xFF#8 ∧ base.busRead 0xFEFF#16 = 0xFF#8 ∧
    base.busRead 0xFF80#16 = base.mem.read 0xFF80 ∧ base.busRead 0xFFFE#16 = base.mem.read 0xFFFE ∧
    base.busRead 0xFFFF#16 = base.ie ∧ base.busRead 0xFF00#16 = base.ioRead 0xFF00 ∧
    base.busRead 0xFF7F#16 = base.ioRead 0xFF7F ∧ isStub 0xFF10 = true ∧ isStub 0xFF3F = true := by decide
theorem witness_BusReadByRegion_boot :
    ({ base with bootRomEnabled := true, params := { Params.default with bootRom := some [0x31#8] } } : State).bootRomEnabled
      = true ∧ (0x0000#16 : Word).toNat < ([0x31#8] : List Byte).length := by decide
theorem witness_StoredByteReadsBack : base.mem.wf = true ∧ ramKey base 0xF000#16 = some 0xC000 ∧
    ramKey base 0xC000#16 = some 0xC000 ∧ ramKey base 0xC001#16 ≠ some 0xC000 ∧
    ramKey base 0x8000#16 = some 0x8000 ∧ ramKey base 0x9FFF#16 = some 0x9FFF ∧
    ramKey base 0xFE9F#16 = some 0xFE9F ∧ ramKey base 0xFF26#16 = some 0xFF26 ∧
    ramKey base 0xFF3F#16 = some 0xFF3F ∧ ramKey base 0xFFFE#16 = some 0xFFFE := by decide
theorem witness_IgnoredWritesChangeNothing :
    (0xFE00 ≤ (0xFE9F#16 : Word).toNat ∧ (0xFE9F#16 : Word).toNat ≤ 0xFE9F ∧
      ({ base with ppu := { base.ppu with mode := .drawing } } : State).ppu.mode = .drawing) ∧
    base.cart = .romOnly ∧ base.busWrite 0x7FFF#16 0x01#8 = base ∧ base.busWrite 0xBFFF#16 0x01#8 = base ∧
    base.busWrite 0xFF03#16 0x01#8 = base ∧ base.busWrite 0xFF0E#16 0x01#8 = base ∧
    base.busWrite 0xFF27#16 0x01#8 = base ∧ base.busWrite 0xFF2F#16 0x01#8 = base ∧
    base.busWrite 0xFF4C#16 0x01#8 = base ∧ base.busWrite 0xFF7F#16 0x01#8 = base := by decide
theorem witness_IgnoredWritesChangeNothing_external :
    let s : State := { base with cart := .external 3 }
    s.dmaRemaining = 0 ∧ s.cart = .external 3 ∧ (0x7FFF#16 : Word).toNat ≤ 0x7FFF ∧
    0xA000 ≤ (0xA000#16 : Word).toNat ∧ (0xBFFF#16 : Word).toNat ≤ 0xBFFF := by decide
theorem witness_IoRegisterAccess : base.dmaRemaining = 0 ∧
    base.busRead 0xFF08#16 = 0xFF#8 ∧ base.busRead 0xFF7F#16 = 0xFF#8 := by decide
theorem witness_VideoRegistersRoundTrip : base.dmaRemaining = 0 ∧
    (base.busWrite 0xFF40#16 0x91#8).busRead 0xFF40#16 = 0x91#8 := by decide
theorem witness_DmaTriggerCopiesToOam : base.mem.wf = true ∧ base.dmaRemaining = 0 ∧ (159 : Nat) < 160 ∧
    ¬(0xFE#8 = 0xFF#8 ∧ (159 : Nat) = 0x46) := by decide
theorem witness_PopReadsWhatPushStored : base.mem.wf = true ∧ ramKey base (base.sp - 1#16) = some 0xDFFD ∧
    ramKey base (base.sp - 2#16) = some 0xDFFC ∧ (0xDFFD : Nat) ≠ 0xDFFC ∧ base.sp - 1#16 ≠ 0xFF00#16 ∧
    base.sp - 2#16 ≠ 0xFF00#16 := by decide

theorem witness_StepRunsTheDecodedInstruction :
    base.cpuMode = .running ∧ ¬(base.ime = true ∧ base.requested &&& base.ie.extractLsb' 0 5 ≠ 0#5) ∧
    base.halted = false ∧
    decode [base.busRead base.pc, (base.bumpFree 1).busRead 0xC001#16, (base.bumpFree 2).busRead 0xC002#16]
      = .ok (.nop, [0x00#8, 0x00#8]) ∧
    exec .nop { base with pc := 0xC001#16, haltBug := false, freeCtr := 3 }
      = .next { base with pc := 0xC001#16, haltBug := false, freeCtr := 3 } :=
  ⟨rfl, by decide, rfl, rfl, rfl⟩
theorem witness_StepStopsOnlyOnStopAndUndefined : base.cpuMode = .running ∧
    ({ base with cpuMode := .locked 0xDD#8 } : State).cpuMode = .locked 0xDD#8 ∧
    ({ base with cpuMode := .stopped } : State).cpuMode = .stopped := by decide
theorem witness_StepStopsOnlyOnStopAndUndefined_stop :
    let s := code3 0x10#8 0x01#8 0x01#8
    s.cpuMode = .running ∧ ¬(s.ime = true ∧ s.requested &&& s.ie.extractLsb' 0 5 ≠ 0#5) ∧ s.halted = false ∧
    s.busRead s.pc = 0x10#8 := by decide
theorem witness_StepStopsOnlyOnStopAndUndefined_undefined :
    let s : State := { code3 0xFD#8 0x01#8 0x01#8 with halted := true, requested := 0b10000#5, ie := 0x10#8 }
    s.cpuMode = .running ∧ ¬(s.ime = true ∧ s.requested &&& s.ie.extractLsb' 0 5 ≠ 0#5) ∧
    s.requested &&& s.ie.extractLsb' 0 5 ≠ 0#5 ∧ s.busRead s.pc ∈ undefinedOpcodes := by decide
theorem witness_InterruptDispatchStep :
    let s : State := { base with ime := true, requested := 0b10000#5, ie := 0xFF#8 }
    s.cpuMode = .running ∧ s.ime = true ∧ s.requested &&& s.ie.extractLsb' 0 5 ≠ 0#5 := by decide
theorem witness_HaltedIdleAndExit :
    let s : State := { base with halted := true }
    s.cpuMode = .running ∧ s.halted = true ∧ s.requested &&& s.ie.extractLsb' 0 5 = 0#5 ∧
    ({ s with requested := 0b00001#5, ie := 0x01#8 } : State).requested
      &&& ({ s with requested := 0b00001#5, ie := 0x01#8 } : State).ie.extractLsb' 0 5 ≠ 0#5 ∧
    s.ime = false := by decide
theorem witness_EiTakesEffectOneInstructionLate :
    let s : State := { base with imePending := true }
    s.cpuMode = .running ∧ s.ime = false ∧ s.halted = false ∧
    nextHas (step s) (fun t => t.ime && !t.imePending) = true := by decide
theorem witness_EiTakesEffectOneInstructionLate_ei :
    let s : State := { base with mem := [(0xC000, 0xFB#8)] }
    s.imePending = false ∧ s.busRead s.pc = 0xFB#8 ∧
    nextHas (step s) (fun t => !t.ime && t.imePending) = true := by decide

theorem witness_TimerOverflowReloadsAfterFour :
    Timer.tick { div16 := 0x000F#16, tima := 0xFF#8, tma := 0xAB#8, tac := 0b101#3, reloadDelay := 0 } =
      ({ div16 := 0x0010#16, tima := 0x00#8, tma := 0xAB#8, tac := 0b101#3, reloadDelay := 4 }, true) := by decide
theorem witness_TimerCountsOncePerPeriod :
    let t : Timer := { div16 := 0xFFFF#16, tima := 0xFE#8, tma := 0#8, tac := 0b101#3, reloadDelay := 0 }
    t.tac.getLsbD 2 = true ∧ t.reloadDelay = 0 ∧ t.tima ≠ 0xFF#8 ∧ t.tac.extractLsb' 0 2 = 1#2 ∧
    (Timer.advance 16 t false).1.tima = 0xFF#8 ∧
    (0b100#3 : BitVec 3).extractLsb' 0 2 = 0#2 ∧ (0b110#3 : BitVec 3).extractLsb' 0 2 = 2#2 ∧
    (0b111#3 : BitVec 3).extractLsb' 0 2 = 3#2 := by decide
theorem witness_ModeEntryAndDisplaySwitch : base.ppu.lcdc.getLsbD 7 = false ∧
    (0x80#8 : Byte).getLsbD 7 = true ∧ ({ base.ppu with lcdc := 0x91#8 } : Ppu).lcdc.getLsbD 7 = true := by decide

/-- The display just enabled, at the start of line 0; and the same at line 143. -/
theorem witness_ScanlineAndFrame :
    let p : Ppu := (base.ppu.writeLcdc 0x91#8).1
    p.lcdc.getLsbD 7 = true ∧ p.mode = .oamScan ∧ p.dot = 0 ∧ p.ly = 0 ∧ p.ly < 144 ∧
    ({ p with ly := 143 } : Ppu).ly < 144 := by decide
theorem witness_ResetInvariant_bounds : State.reset.mem.wf = true ∧ State.reset.ppu.placed = true ∧
    State.reset.f.extractLsb' 0 4 = 0#4 ∧ nextHas (step State.reset) (fun t => t.pc == 0x0001#16) = true := by decide

theorem witness_ResetValues_stubs : (∀ cell ∈ ([(0x0000, 0x31#8), (0x7FFF, 0xC9#8)] : Memory), cell.1 < 0x8000) ∧
    isStub (0xFF26#16 : Word).toNat = true := by decide

/-- A machine that has run: code in WRAM, the display on in DRAWING, a DMA and a timer reload under way. -/
def inUse : State := { code3 0x3E#8 0x14#8 0x01#8 with
    f := 0xB0#8, dmaRemaining := 640, frameElapsed := 70220
    timer := { base.timer with reloadDelay := 4 }
    ppu := { base.ppu with lcdc := 0x91#8, mode := .drawing, dot := 368, ly := 143, lx := 160 } }
theorem witness_EveryStepKeepsTheInvariant_inv : inUse.Inv := by
  refine ⟨rfl, by decide, rfl, rfl, by decide, by decide, ?_, by decide, by decide⟩
  exact ⟨by decide, by decide, by decide, by decide, by decide, rfl, fun _ => by show (0 : Nat) < 4; decide⟩
-- under the lockout the opcode fetch reads 0xFF, `RST 38H`, 16 T-cycles (R64, R84)
theorem witness_EveryStepKeepsTheInvariant : inUse.Inv ∧ nextHas (step inUse) (fun t => t.dmaRemaining == 624) = true :=
  ⟨witness_EveryStepKeepsTheInvariant_inv, by decide⟩

end Sys2Proof.Tests
end

section
/-! PROOF. The pair views of the registers (spec/10_state.md R21, R25). -/

namespace Sys2Proof.Machine

/-- The two bytes of a word make it up again. -/
@[simp] theorem wordOf_hiByte_loByte (v : Word) : wordOf (hiByte v) (loByte v) = v := by
  have h : v.extractLsb' 8 8 ++ v.extractLsb' 0 8 = v.extractLsb' 0 16 :=
    BitVec.extractLsb'_append_extractLsb'_eq_extractLsb' rfl
  exact h.trans BitVec.extractLsb'_eq_self

/-- The mask of R25 keeps bits 7 to 4 of the low byte and clears bits 3 to 0. -/
theorem loByte_and_F0 (v : Word) : loByte v &&& 0xF0#8 = v.extractLsb' 4 4 ++ 0#4 := by
  have nibbles : v.extractLsb' 4 4 ++ v.extractLsb' 0 4 = loByte v :=
    BitVec.extractLsb'_append_extractLsb'_eq_extractLsb' rfl
  have mask : 0xF0#8 = BitVec.allOnes 4 ++ 0#4 := by decide
  rw [← nibbles, mask, BitVec.and_append, BitVec.and_allOnes, BitVec.and_zero]

/-- A word whose low byte is masked keeps its upper 12 bits. -/
theorem wordOf_hiByte_masked (v : Word) :
    wordOf (hiByte v) (loByte v &&& 0xF0#8) = v.extractLsb' 4 12 ++ 0#4 := by
  have upper : v.extractLsb' 8 8 ++ v.extractLsb' 4 4 = v.extractLsb' 4 12 :=
    BitVec.extractLsb'_append_extractLsb'_eq_extractLsb' rfl
  rw [loByte_and_F0, ← upper, BitVec.append_assoc]
  rfl

/-- The pairs other than AF read back what was written. -/
theorem rp2_setRp2 (s : State) (v : Word) {p : Rp2} (hp : p ≠ .af) : (s.setRp2 p v).rp2 p = v := by
  cases p with
  | bc | de | hl => exact wordOf_hiByte_loByte v
  | af => exact absurd rfl hp

theorem rp2_setRp2_af (s : State) (v : Word) : (s.setRp2 .af v).rp2 .af = v.extractLsb' 4 12 ++ 0#4 :=
  wordOf_hiByte_masked v

theorem setRp2_af (s : State) (v : Word) :
    s.setRp2 .af v = { s with a := v.extractLsb' 8 8, f := v.extractLsb' 4 4 ++ 0#4 } := by
  rw [← loByte_and_F0]
  rfl

/-- Settles O38: the pairs are their two registers by definition; the write through AF and the read-backs
are the lemmas above. -/
theorem pairViewsOfRegisters : Obligations.PairViewsOfRegisters := fun s v =>
  ⟨rfl, rfl, rfl, rfl, rfl, rfl, rfl, rfl, rfl, rfl, rfl, setRp2_af s v,
    rp2_setRp2 s v (by decide), rp2_setRp2 s v (by decide), rp2_setRp2 s v (by decide), rp2_setRp2_af s v⟩

end Sys2Proof.Machine
end

section
/-! PROOF. The values and the invariant at reset (spec/10_state.md R40 to R44, spec/20_memory.md R78,
spec/60_exceptions.md R365, R371). -/

namespace Sys2Proof.Machine

/-- An address that no cell lists reads as unlisted. -/
theorem Memory.read_of_forall_ne {m : Memory} {a : Nat} (h : ∀ cell ∈ m, cell.1 ≠ a) :
    m.read a = Memory.unlisted a := by
  induction m with
  | nil => rfl
  | cons cell m ih =>
    obtain ⟨hcell, hm⟩ := List.forall_mem_cons.1 h
    rw [Memory.read, if_neg (Ne.symm hcell)]
    exact ih hm

/-- A stub register names its own cell while no DMA locks the bus (R78, R84). -/
theorem ramKey_of_isStub {s : State} {x : Word} (hdma : s.dmaRemaining = 0) (hx : isStub x.toNat = true) :
    ramKey s x = some x.toNat := by
  rw [isStub_iff] at hx
  unfold ramKey
  rw [if_neg (by omega), if_neg (by omega), if_neg (by omega), if_neg (by omega), if_neg (by omega)]
  obtain h | h | h | h := hx
  · exact if_pos (by omega)
  · exact if_pos (by omega)
  · rw [if_neg (by omega), if_pos h]
  · rw [if_neg (by omega), if_neg (by omega), if_pos h]

@[simp] theorem resetWith_mem (preset : ResetPreset) (params : Params) (cart : Cart) (rom : Memory) :
    (State.resetWith preset params cart rom).mem = rom := by cases preset <;> rfl

@[simp] theorem resetWith_dmaRemaining (preset : ResetPreset) (params : Params) (cart : Cart) (rom : Memory) :
    (State.resetWith preset params cart rom).dmaRemaining = 0 := by cases preset <;> rfl

@[simp] theorem resetWith_ppu (preset : ResetPreset) (params : Params) (cart : Cart) (rom : Memory) :
    (State.resetWith preset params cart rom).ppu = Ppu.reset preset := by cases preset <;> rfl

/-- F is reset to 0x00 or 0xB0, each with a zero low nibble (R25). -/
theorem resetWith_f_low (preset : ResetPreset) (params : Params) (cart : Cart) (rom : Memory) :
    (State.resetWith preset params cart rom).f.extractLsb' 0 4 = 0#4 := by
  cases preset with
  | powerOn => exact (by decide : BitVec.extractLsb' 0 4 0x00#8 = 0#4)
  | postBoot => exact (by decide : BitVec.extractLsb' 0 4 0xB0#8 = 0#4)

/-- Right after reset a stub register reads 0x00, where the ROM image lists ROM addresses only (R78). -/
theorem resetWith_busRead_of_isStub (preset : ResetPreset) (params : Params) (cart : Cart) {rom : Memory} {x : Word}
    (hrom : ∀ cell ∈ rom, cell.1 < 0x8000) (hx : isStub x.toNat = true) :
    (State.resetWith preset params cart rom).busRead x = 0x00#8 := by
  have hx' : 0xFF00 < x.toNat := by rw [isStub_iff] at hx; omega
  have hkey := ramKey_of_isStub (resetWith_dmaRemaining preset params cart rom) hx
  rw [busRead_of_ramKey hkey (by omega), resetWith_mem]
  exact Memory.read_of_forall_ne fun cell hcell => by have := hrom cell hcell; omega

/-- The video controller meets its invariant after reset, under both presets. -/
theorem Ppu.reset_inv (preset : ResetPreset) : (Ppu.reset preset).Inv := by
  have white : ∀ k, (Memory.read [] k).toNat < 4 := fun _ => Nat.zero_lt_succ 3
  cases preset with
  | powerOn | postBoot => exact ⟨by decide, by decide, by decide, by decide, by decide, by decide, white⟩

/-- Reset gives the invariant to every machine whose ROM image is a canonical memory and whose cycle table is
bounded. -/
theorem resetWith_inv (preset : ResetPreset) {params : Params} (cart : Cart) {rom : Memory} (hwf : rom.wf = true)
    (hspace : ∀ cell ∈ rom, cell.1 < 0x10000) (hcycles : boundedCycles params.cycles = true) :
    (State.resetWith preset params cart rom).Inv := by
  have flags := resetWith_f_low preset params cart rom
  have video : (State.resetWith preset params cart rom).ppu.Inv := by
    rw [resetWith_ppu]
    exact Ppu.reset_inv preset
  cases preset with
  | powerOn | postBoot =>
    exact ⟨hwf, hspace, flags, rfl, Nat.zero_le _, Nat.zero_le _, video, Nat.zero_lt_succ _, hcycles⟩

/-- Settles O58: the values are those `State.resetWith` lists; the invariant and the stub registers are the
lemmas above. -/
theorem resetValuesAndInvariant : Obligations.ResetValuesAndInvariant := by
  refine ⟨resetWith_inv _ _ rfl (by simp) boundedCycles_default, ?_, ?_,
    fun preset params cart _ _ => resetWith_busRead_of_isStub preset params cart⟩
  · intro params cart rom s
    and_intros <;> rfl
  · intro params cart rom s
    and_intros <;> rfl

end Sys2Proof.Machine
end

section
/-! PROOF. The device advance (spec/20_memory.md R86, spec/60_exceptions.md R348, R354, R370). -/

namespace Sys2Proof.Machine

theorem Timer.advance_step (n : Nat) (t : Timer) (irq : Bool) :
    Timer.advance (n + 1) t irq = Timer.advance n t.tick.1 (irq || t.tick.2) := rfl

theorem Ppu.advance_step (mem : Memory) (len : Option Nat) (n : Nat) (p : Ppu) (mask : BitVec 5) :
    Ppu.advance mem len (n + 1) p mask = Ppu.advance mem len n (p.tick mem len).1 (mask ||| (p.tick mem len).2) := rfl

/-- The request an advance of the timer starts with is carried into the answer and changes nothing else. -/
theorem Timer.advance_irq (n : Nat) (t : Timer) (irq : Bool) :
    Timer.advance n t irq = ((Timer.advance n t false).1, irq || (Timer.advance n t false).2) := by
  induction n generalizing t irq with
  | zero => simp [Timer.advance]
  | succ n ih =>
    simp only [Timer.advance_step, Bool.false_or]
    rw [ih t.tick.1 (irq || t.tick.2), ih t.tick.1 t.tick.2, Bool.or_assoc]

/-- The requests an advance of the video controller starts with are carried into the answer and change nothing
else. -/
theorem Ppu.advance_mask (mem : Memory) (len : Option Nat) (n : Nat) (p : Ppu) (mask : BitVec 5) :
    Ppu.advance mem len n p mask = ((Ppu.advance mem len n p 0#5).1, mask ||| (Ppu.advance mem len n p 0#5).2) := by
  induction n generalizing p mask with
  | zero => simp [Ppu.advance]
  | succ n ih =>
    simp only [Ppu.advance_step, BitVec.zero_or]
    rw [ih (p.tick mem len).1 (mask ||| (p.tick mem len).2), ih (p.tick mem len).1 (p.tick mem len).2,
      BitVec.or_assoc]

/-- One tick, then the rest: the timer requests when either does. -/
theorem Timer.advance_succ (n : Nat) (t : Timer) : Timer.advance (n + 1) t false =
    ((Timer.advance n t.tick.1 false).1, t.tick.2 || (Timer.advance n t.tick.1 false).2) := by
  rw [Timer.advance_step, Bool.false_or, Timer.advance_irq]

/-- One tick, then the rest: the video controller requests what either does. -/
theorem Ppu.advance_succ (mem : Memory) (len : Option Nat) (n : Nat) (p : Ppu) :
    Ppu.advance mem len (n + 1) p 0#5 = ((Ppu.advance mem len n (p.tick mem len).1 0#5).1,
      (p.tick mem len).2 ||| (Ppu.advance mem len n (p.tick mem len).1 0#5).2) := by
  rw [Ppu.advance_step, BitVec.zero_or, Ppu.advance_mask]

/-- The device advance as one record update, its two device answers by their parts (R370). -/
theorem State.advance_eq (s : State) (c : Nat) : s.advance c = { s with
    ppu := (s.ppu.advance s.mem s.params.drawingLen c 0#5).1, timer := (s.timer.advance c false).1
    requested := s.requested ||| (s.ppu.advance s.mem s.params.drawingLen c 0#5).2 |||
      timerMask (s.timer.advance c false).2
    dmaRemaining := s.dmaRemaining - c, frameElapsed := frameAfter s.frameElapsed c } := rfl

/-- Settles O60: the advance of a step is the record update of `State.advance_eq`; the advances of the two devices unfold tick by
tick. -/
theorem deviceAdvanceOfAStep : Obligations.DeviceAdvanceOfAStep :=
  ⟨fun s c => ⟨_, _, _, _, rfl, rfl, s.advance_eq c⟩,
    fun mem len p => ⟨rfl, fun n => ⟨_, _, _, _, rfl, rfl, Ppu.advance_succ mem len n p⟩⟩,
    fun t => ⟨rfl, fun n => ⟨_, _, _, _, rfl, rfl, Timer.advance_succ n t⟩⟩⟩

end Sys2Proof.Machine
end

section
/-! PROOF. An instruction's encoding of one, two or three bytes (spec/30_encoding.md R101, R118). -/

namespace Sys2Proof

/-- With enough bytes the decoder takes as many as byte 0 tells it to. -/
theorem decode_cons {b0 : Byte} {rest : List Byte} (h : lengthOf b0 ≤ rest.length + 1) : decode (b0 :: rest) =
    .ok (decode3 b0 (rest.getD 0 0#8) (rest.getD 1 0#8), rest.drop (lengthOf b0 - 1)) :=
  if_neg (Nat.not_lt.2 h)

theorem encodedAs_one {i : Instr} {b0 : Byte} (henc : encode i = [b0]) (hlen : lengthOf b0 = 1)
    (hdec : ∀ b1 b2, decode3 b0 b1 b2 = i) : EncodedAs i [b0] := by
  refine ⟨henc, fun rest => ?_⟩
  rw [List.cons_append, decode_cons (by simp [hlen]), hdec, hlen]
  rfl

theorem encodedAs_two {i : Instr} {b0 b1 : Byte} (henc : encode i = [b0, b1]) (hlen : lengthOf b0 = 2)
    (hdec : ∀ b2, decode3 b0 b1 b2 = i) : EncodedAs i [b0, b1] := by
  refine ⟨henc, fun rest => ?_⟩
  rw [List.cons_append, decode_cons (by simp [hlen]), hlen]
  exact congrArg (fun j => Except.ok (j, rest)) (hdec _)

/-- The immediate of a three-byte instruction is a word, low byte first (R101). -/
theorem encodedAs_word {instr : Word → Instr} {b0 : Byte} (nn : Word)
    (henc : encode (instr nn) = [b0, loByte nn, hiByte nn]) (hlen : lengthOf b0 = 3)
    (hdec : ∀ b1 b2, decode3 b0 b1 b2 = instr (wordOf b2 b1)) :
    EncodedAs (instr nn) [b0, nn.extractLsb' 0 8, nn.extractLsb' 8 8] := by
  refine ⟨henc, fun rest => ?_⟩
  rw [List.cons_append, decode_cons (by simp [hlen]), hlen, hdec]
  exact congrArg (fun v => Except.ok (instr v, rest)) (Machine.wordOf_hiByte_loByte nn)

end Sys2Proof
end

section
/-! PROOF. The M-cycles of a first-page instruction from its opcode (spec/60_exceptions.md R307, R415). -/

namespace Sys2Proof.Machine

/-- Outside the CB page the first byte gives the count (R307). -/
theorem mCycles_of_encode {i : Instr} {b0 : Byte} {rest : List Byte} (henc : encode i = b0 :: rest)
    (hb0 : b0 ≠ 0xCB#8) (s : State) : mCycles i s = opCycles b0 s := by
  rw [mCycles, henc]
  exact if_neg hb0

theorem costs_of_encode {i : Instr} {b0 : Byte} {rest : List Byte} {m : Nat} (henc : encode i = b0 :: rest)
    (hb0 : b0 ≠ 0xCB#8) (hcond : branchCond b0 = none) (hm : CycleTable.default.baseCount b0 = m) : Costs i m := by
  intro s hs
  rw [mCycles_of_encode henc hb0, opCycles, hcond, hs]
  exact hm

theorem costsOn_of_encode {i : Instr} {b0 : Byte} {rest : List Byte} {cc : Cond} {taken base : Nat}
    (henc : encode i = b0 :: rest) (hb0 : b0 ≠ 0xCB#8) (hcond : branchCond b0 = some cc)
    (htaken : CycleTable.default.takenCount b0 = taken) (hbase : CycleTable.default.baseCount b0 = base) :
    CostsOn i cc taken base := by
  intro s hs
  rw [mCycles_of_encode henc hb0, opCycles, hcond, hs, ← htaken, ← hbase]

end Sys2Proof.Machine
end

section
/-! PROOF. The jumps (spec/30_encoding.md R106, spec/40_block0.md R133, R134, spec/43_block3.md R220, R222,
R227). -/

namespace Sys2Proof.Machine

/-- The condition table over the two flag bits (R106). -/
theorem cond_iff (s : State) :
    (s.cond .nz = true ↔ s.f.getLsbD 7 = false) ∧ (s.cond .z = true ↔ s.f.getLsbD 7 = true) ∧
      (s.cond .nc = true ↔ s.f.getLsbD 4 = false) ∧ (s.cond .c = true ↔ s.f.getLsbD 4 = true) := by
  simp [State.cond, State.fZ, State.fC]

/-- The sign extension of a displacement (R8): a negative one takes 0xFF for its upper byte. -/
theorem toNat_sext16 (e : Byte) : (sext16 e).toNat = if e.toNat < 128 then e.toNat else e.toNat + 0xFF00 := by
  have hlt : e.toNat < 65536 := by have := e.isLt; omega
  rw [sext16, BitVec.toNat_signExtend, BitVec.toNat_setWidth, Nat.mod_eq_of_lt hlt, BitVec.msb_eq_decide]
  by_cases h : e.toNat < 128
  · simp [h]
  · simp [h, Nat.not_lt.1 h]

theorem add_sext16 (x : Word) (e : Byte) : x + sext16 e =
    BitVec.ofNat 16 (x.toNat + if e.toNat < 128 then e.toNat else e.toNat + 0xFF00) := by
  rw [← toNat_sext16, BitVec.ofNat_add]
  simp only [BitVec.ofNat_toNat, BitVec.setWidth_eq]

theorem jumpRel_eq (s : State) (e : Byte) : s.jumpRel e = { s with
    pc := BitVec.ofNat 16 (s.pc.toNat + if e.toNat < 128 then e.toNat else e.toNat + 0xFF00) } := by
  rw [State.jumpRel, add_sext16]

theorem exec_jrCcInstr (cc : Cond) (e : Byte) (s : State) :
    exec (jrCcInstr cc e) s = .next (if s.cond cc = true then s.jumpRel e else s) := by
  cases cc with
  | nz | z | nc | c => rfl

theorem exec_jpCcInstr (cc : Cond) (nn : Word) (s : State) :
    exec (jpCcInstr cc nn) s = .next (if s.cond cc = true then s.jump nn else s) := by
  cases cc with
  | nz | z | nc | c => rfl

theorem jrCcInstr_encoding (cc : Cond) (e : Byte) :
    EncodedAs (jrCcInstr cc e) [BitVec.ofNat 8 (0x20 + 8 * cc.code), e] := by
  cases cc with
  | nz | z | nc | c => exact encodedAs_two rfl rfl fun _ => rfl

theorem jpCcInstr_encoding (cc : Cond) (nn : Word) : EncodedAs (jpCcInstr cc nn)
    [BitVec.ofNat 8 (0xC2 + 8 * cc.code), nn.extractLsb' 0 8, nn.extractLsb' 8 8] := by
  cases cc with
  | nz | z | nc | c => exact encodedAs_word nn rfl rfl fun _ _ => rfl

theorem jrCcInstr_costs (cc : Cond) (e : Byte) : CostsOn (jrCcInstr cc e) cc 3 2 := by
  cases cc with
  | nz | z | nc | c => exact costsOn_of_encode rfl (by decide) rfl rfl rfl

theorem jpCcInstr_costs (cc : Cond) (nn : Word) : CostsOn (jpCcInstr cc nn) cc 4 3 := by
  cases cc with
  | nz | z | nc | c => exact costsOn_of_encode rfl (by decide) rfl rfl rfl

/-- Settles O27: each jump moves PC alone, by `State.jump` or `State.jumpRel`. -/
theorem jumpResults : Obligations.JumpResults := by
  refine ⟨cond_iff, fun e s => ⟨?_, ?_, ?_⟩, fun cc e s => ⟨?_, ?_, ?_⟩, fun nn s => ⟨?_, ?_, ?_⟩,
    fun cc nn s => ⟨?_, ?_, ?_⟩, ?_, ?_, ?_⟩
  · exact encodedAs_two rfl rfl fun _ => rfl
  · exact costs_of_encode rfl (by decide) rfl rfl
  · exact congrArg Host.Outcome.next (jumpRel_eq s e)
  · exact jrCcInstr_encoding cc e
  · exact jrCcInstr_costs cc e
  · rw [exec_jrCcInstr, jumpRel_eq]
  · exact encodedAs_word nn rfl rfl fun _ _ => rfl
  · exact costs_of_encode rfl (by decide) rfl rfl
  · rfl
  · exact jpCcInstr_encoding cc nn
  · exact jpCcInstr_costs cc nn
  · exact exec_jpCcInstr cc nn s
  · exact encodedAs_one rfl rfl fun _ _ => rfl
  · exact costs_of_encode rfl (by decide) rfl rfl
  · exact fun s => rfl

end Sys2Proof.Machine
end

section
/-! PROOF. The reading rules of the register operands, the pairs and a result's flags (spec/00_scope.md R9,
spec/10_state.md R20, R21). -/

namespace Sys2Proof.Machine

/-- A register read after a register write. -/
theorem op8_setOp8 (s : State) (v : Byte) {o p : Opnd} (ho : o ≠ .indHL) (hp : p ≠ .indHL) :
    (s.setOp8 o v).op8 p = if p = o then v else s.op8 p := by
  cases o with
  | indHL => exact absurd rfl ho
  | b | c | d | e | h | l | a =>
    cases p with
    | indHL => exact absurd rfl hp
    | b | c | d | e | h | l | a => rfl

theorem op8_setOp8_same (s : State) (v : Byte) {o : Opnd} (ho : o ≠ .indHL) : (s.setOp8 o v).op8 o = v := by
  rw [op8_setOp8 s v ho ho, if_pos rfl]

/-- No operand write, not even a store, touches F. -/
@[simp] theorem setOp8_f (s : State) (o : Opnd) (v : Byte) : (s.setOp8 o v).f = s.f := by
  cases o with
  | indHL => exact (congrArg State.f (busWrite_same s s.hl v) :)
  | b | c | d | e | h | l | a => rfl

@[simp] theorem op8_setResultFlags (s : State) (r : AluResult) (o : Opnd) : (s.setResultFlags r).op8 o = s.op8 o := by
  cases o with
  | b | c | d | e | h | l | indHL | a => rfl

/-- The written register reads back the result. -/
theorem op8_putResult_same (s : State) (r : AluResult) {o : Opnd} (ho : o ≠ .indHL) :
    (s.putResult o r).op8 o = r.res := by
  rw [State.putResult, op8_setResultFlags, op8_setOp8_same s r.res ho]

theorem putResult_f (s : State) (o : Opnd) (r : AluResult) : (s.putResult o r).f = packFlags r.z r.n r.h r.c := rfl

/-- A register write keeps everything but the register. -/
theorem regFrame_setOp8 (s : State) (v : Byte) {o : Opnd} (ho : o ≠ .indHL) : RegFrame s (s.setOp8 o v) [o] := by
  have others : ∀ p, p ≠ .indHL → p ∉ [o] → (s.setOp8 o v).op8 p = s.op8 p := fun p hp hpo => by
    rw [op8_setOp8 s v ho hp, if_neg (mt List.mem_singleton.2 hpo)]
  cases o with
  | indHL => exact absurd rfl ho
  | b | c | d | e | h | l | a => exact ⟨rfl, others, fun x => rfl⟩

/-- A register frame leaves F free. -/
theorem regFrame_setResultFlags {s t : State} {w : List Opnd} (r : AluResult) (h : RegFrame s t w) :
    RegFrame s (t.setResultFlags r) w := by
  obtain ⟨hs, hregs, hreads⟩ := h
  exact ⟨congrArg (State.setResultFlags · r) hs, fun o ho hw => (op8_setResultFlags t r o).trans (hregs o ho hw), hreads⟩

/-- A result in a register keeps everything but the register and F. -/
theorem regFrame_putResult (s : State) (r : AluResult) {o : Opnd} (ho : o ≠ .indHL) :
    RegFrame s (s.putResult o r) [o] :=
  regFrame_setResultFlags r (regFrame_setOp8 s r.res ho)

theorem rp_setRp_same (s : State) (p : Rp) (v : Word) : (s.setRp p v).rp p = v := by
  cases p with
  | bc | de | hl => exact wordOf_hiByte_loByte v
  | sp => rfl

theorem rp_setRp_of_ne (s : State) (v : Word) {p q : Rp} (h : q ≠ p) : (s.setRp p v).rp q = s.rp q := by
  cases p with
  | bc => cases q with
    | bc => exact absurd rfl h
    | de | hl | sp => rfl
  | de => cases q with
    | de => exact absurd rfl h
    | bc | hl | sp => rfl
  | hl => cases q with
    | hl => exact absurd rfl h
    | bc | de | sp => rfl
  | sp => cases q with
    | sp => exact absurd rfl h
    | bc | de | hl => rfl

/-- A pair write keeps everything but the registers of the pairs. -/
theorem setRp_frame (s : State) (p : Rp) (v : Word) : s.setRp p v = { s with
    b := (s.setRp p v).b, c := (s.setRp p v).c, d := (s.setRp p v).d, e := (s.setRp p v).e
    h := (s.setRp p v).h, l := (s.setRp p v).l, sp := (s.setRp p v).sp } := by
  cases p with
  | bc | de | hl | sp => rfl

/-- One up modulo 65536. -/
theorem toNat_add_one (x : Word) : (x + 1#16).toNat = (x.toNat + 1) % 65536 := BitVec.toNat_add x 1#16

/-- One down modulo 65536. -/
theorem toNat_sub_one (x : Word) : (x - 1#16).toNat = (x.toNat + 65535) % 65536 := by
  rw [BitVec.toNat_sub, Nat.add_comm]
  rfl

/-- HL reads back as the word written to it. -/
theorem toNat_hl_setHL (s : State) (v : Word) : ((s.setHL v).h ++ (s.setHL v).l).toNat = v.toNat :=
  congrArg BitVec.toNat (wordOf_hiByte_loByte v)

end Sys2Proof.Machine
end

section
/-! PROOF. The 16-bit loads, increments and decrements of the pairs (spec/40_block0.md R135, R146, R147,
spec/43_block3.md R221). -/

namespace Sys2Proof.Machine

theorem exec_incRpInstr (p : Rp) (s : State) : exec (incRpInstr p) s = .next (s.setRp p (s.rp p + 1#16)) := by
  cases p with
  | bc | de | hl | sp => rfl

theorem exec_decRpInstr (p : Rp) (s : State) : exec (decRpInstr p) s = .next (s.setRp p (s.rp p - 1#16)) := by
  cases p with
  | bc | de | hl | sp => rfl

theorem ldRpInstr_encoding (p : Rp) (nn : Word) : EncodedAs (ldRpInstr p nn)
    [BitVec.ofNat 8 (0x01 + 16 * p.code), nn.extractLsb' 0 8, nn.extractLsb' 8 8] := by
  cases p with
  | bc | de | hl | sp => exact encodedAs_word nn rfl rfl fun _ _ => rfl

theorem incRpInstr_encoding (p : Rp) : EncodedAs (incRpInstr p) [BitVec.ofNat 8 (0x03 + 16 * p.code)] := by
  cases p with
  | bc | de | hl | sp => exact encodedAs_one rfl rfl fun _ _ => rfl

theorem decRpInstr_encoding (p : Rp) : EncodedAs (decRpInstr p) [BitVec.ofNat 8 (0x0B + 16 * p.code)] := by
  cases p with
  | bc | de | hl | sp => exact encodedAs_one rfl rfl fun _ _ => rfl

theorem ldRpInstr_costs (p : Rp) (nn : Word) : Costs (ldRpInstr p nn) 3 := by
  cases p with
  | bc | de | hl | sp => exact costs_of_encode rfl (by decide) rfl rfl

theorem incRpInstr_costs (p : Rp) : Costs (incRpInstr p) 2 := by
  cases p with
  | bc | de | hl | sp => exact costs_of_encode rfl (by decide) rfl rfl

theorem decRpInstr_costs (p : Rp) : Costs (decRpInstr p) 2 := by
  cases p with
  | bc | de | hl | sp => exact costs_of_encode rfl (by decide) rfl rfl

/-- Settles O7: each load is the write of its pair. -/
theorem loadPairResults : Obligations.LoadPairResults := by
  refine ⟨fun p nn => ⟨ldRpInstr_encoding p nn, ldRpInstr_costs p nn⟩, ?_, ?_, fun nn s => ⟨rfl, rfl, rfl, rfl, rfl⟩⟩
  · exact encodedAs_one rfl rfl fun _ _ => rfl
  · exact costs_of_encode rfl (by decide) rfl rfl

/-- Settles O8: both are the write of the pair, moved by one. -/
theorem incDecPairResults : Obligations.IncDecPairResults := by
  intro p s
  refine ⟨incRpInstr_encoding p, incRpInstr_costs p, decRpInstr_encoding p, decRpInstr_costs p,
    ⟨_, exec_incRpInstr p s, ?_, fun q => rp_setRp_of_ne s _, setRp_frame s p _⟩,
    ⟨_, exec_decRpInstr p s, ?_, fun q => rp_setRp_of_ne s _, setRp_frame s p _⟩⟩
  · rw [rp_setRp_same, toNat_add_one]
  · rw [rp_setRp_same, toNat_sub_one]

end Sys2Proof.Machine
end

section
/-! PROOF. The 8-bit increments and decrements and DAA (spec/40_block0.md R148 to R151, R158). -/

namespace Sys2Proof.Machine

/-- The increment in the arithmetic of bytes (R148). -/
theorem inc8_eq (v : Byte) (c : Bool) : inc8 v c =
    { res := v + 1#8, z := decide (v + 1#8 = 0#8), n := false, h := decide (v.toNat % 16 = 15), c := c } := by
  have res : BitVec.ofNat 8 (v.toNat + 1) = v + 1#8 := by bv_omega
  rw [inc8, res]

/-- The decrement in the arithmetic of bytes (R150). -/
theorem dec8_eq (v : Byte) (c : Bool) : dec8 v c =
    { res := v - 1#8, z := decide (v - 1#8 = 0#8), n := true, h := decide (v.toNat % 16 = 0), c := c } := by
  have res : BitVec.ofInt 8 ((v.toNat : Int) - 1) = v - 1#8 := by bv_omega
  rw [dec8, res]

theorem exec_inc8Instr (o : Opnd) (s : State) : exec (inc8Instr o) s = .next (s.incOp8 o) := by
  cases o with
  | b | c | d | e | h | l | indHL | a => rfl

theorem exec_dec8Instr (o : Opnd) (s : State) : exec (dec8Instr o) s = .next (s.decOp8 o) := by
  cases o with
  | b | c | d | e | h | l | indHL | a => rfl

theorem inc8Instr_encoding (o : Opnd) : EncodedAs (inc8Instr o) [BitVec.ofNat 8 (0x04 + 8 * o.code)] := by
  cases o with
  | b | c | d | e | h | l | indHL | a => exact encodedAs_one rfl rfl fun _ _ => rfl

theorem dec8Instr_encoding (o : Opnd) : EncodedAs (dec8Instr o) [BitVec.ofNat 8 (0x05 + 8 * o.code)] := by
  cases o with
  | b | c | d | e | h | l | indHL | a => exact encodedAs_one rfl rfl fun _ _ => rfl

theorem inc8Instr_costs (o : Opnd) : Costs (inc8Instr o) (if o = .indHL then 3 else 1) := by
  cases o with
  | b | c | d | e | h | l | indHL | a => exact costs_of_encode rfl (by decide) rfl rfl

theorem dec8Instr_costs (o : Opnd) : Costs (dec8Instr o) (if o = .indHL then 3 else 1) := by
  cases o with
  | b | c | d | e | h | l | indHL | a => exact costs_of_encode rfl (by decide) rfl rfl

/-- Settles O10: every form writes the result of `inc8` or `dec8` and its flags to its operand. -/
theorem incDecByteResults : Obligations.IncDecByteResults := by
  refine ⟨fun o => ⟨inc8Instr_encoding o, inc8Instr_costs o, dec8Instr_encoding o, dec8Instr_costs o⟩,
    fun o s ho => ⟨⟨_, exec_inc8Instr o s, regFrame_putResult s _ ho, ?_, ?_⟩,
      ⟨_, exec_dec8Instr o s, regFrame_putResult s _ ho, ?_, ?_⟩⟩,
    fun s => ⟨⟨_, storeFrame_busWrite s _ _, (exec_inc8Instr .indHL s).trans ?_⟩,
      ⟨_, storeFrame_busWrite s _ _, (exec_dec8Instr .indHL s).trans ?_⟩⟩⟩
  · rw [State.incOp8, op8_putResult_same s _ ho, inc8_eq]
    exact BitVec.toNat_add _ _
  · rw [State.incOp8, op8_putResult_same s _ ho, inc8_eq]
    rfl
  · rw [State.decOp8, op8_putResult_same s _ ho, dec8_eq]
    bv_omega
  · rw [State.decOp8, op8_putResult_same s _ ho, dec8_eq]
    rfl
  · rw [State.incOp8, inc8_eq]
    rfl
  · rw [State.decOp8, dec8_eq]
    rfl

theorem daaLow_iff (a : Byte) (n h : Bool) :
    daaLow a n h = true ↔ h = true ∨ (n = false ∧ 0x09 < a.toNat % 16) := by
  simp [daaLow]

theorem daaHigh_iff (a : Byte) (n c : Bool) :
    daaHigh a n c = true ↔ c = true ∨ (n = false ∧ 0x99 < a.toNat) := by
  simp [daaHigh]

/-- The two corrections lie in different digits, so they add up (R158). -/
theorem toNat_daaAdjust (a : Byte) (n h c : Bool) : (daaAdjust a n h c).toNat =
    (if daaLow a n h = true then 0x06 else 0) + (if daaHigh a n c = true then 0x60 else 0) := by
  rw [daaAdjust]
  cases daaLow a n h with
  | false | true =>
    cases daaHigh a n c with
    | false | true => rfl

/-- The adjustment is subtracted after a subtraction and added after an addition, modulo 256 (R158). -/
theorem toNat_daaResult_res (a : Byte) (n h c : Bool) : (daaResult a n h c).res.toNat =
    (if n = true then a.toNat + 256 - (daaAdjust a n h c).toNat else a.toNat + (daaAdjust a n h c).toNat) % 256 := by
  cases n with
  | false => exact BitVec.toNat_add _ _
  | true =>
    have hadj := (daaAdjust a true h c).isLt
    refine (BitVec.toNat_sub _ _).trans (congrArg (· % 256) ?_)
    rw [if_pos rfl]
    omega

/-- Settles O11: the result of `daaResult` goes to A, its flags to F. -/
theorem decimalAdjustResult : Obligations.DecimalAdjustResult := by
  refine ⟨encodedAs_one rfl rfl fun _ _ => rfl, costs_of_encode rfl (by decide) rfl rfl, fun s =>
    ⟨(daaAdjust s.a s.fN s.fH s.fC).toNat, daaHigh s.a s.fN s.fC, ?_, daaHigh_iff s.a s.fN s.fC,
      _, rfl, toNat_daaResult_res s.a s.fN s.fH s.fC, rfl⟩⟩
  simp only [toNat_daaAdjust, daaLow_iff]

end Sys2Proof.Machine
end

section
/-! PROOF. The loads and stores of A through memory (spec/40_block0.md R138 to R145, spec/43_block3.md R212,
R214, R223 to R226). -/

namespace Sys2Proof.Machine

/-- An I/O address has 0xFF for its upper byte (R109). -/
theorem ioAddr_eq (n : Byte) : ioAddr n = 0xFF#8 ++ n := by
  have lower : n.toNat < 256 := n.isLt
  apply BitVec.eq_of_toNat_eq
  rw [ioAddr, BitVec.toNat_add, BitVec.toNat_setWidth, BitVec.toNat_append, ← Nat.shiftLeft_add_eq_or_of_lt n.isLt]
  simp only [BitVec.toNat_ofNat]
  omega

/-- Settles O13: each load reads the bus at the address of its rule. -/
theorem accumulatorLoadResults : Obligations.AccumulatorLoadResults := by
  refine ⟨encodedAs_one rfl rfl fun _ _ => rfl, costs_of_encode rfl (by decide) rfl rfl,
    encodedAs_one rfl rfl fun _ _ => rfl, costs_of_encode rfl (by decide) rfl rfl,
    encodedAs_one rfl rfl fun _ _ => rfl, costs_of_encode rfl (by decide) rfl rfl,
    encodedAs_one rfl rfl fun _ _ => rfl, costs_of_encode rfl (by decide) rfl rfl,
    encodedAs_one rfl rfl fun _ _ => rfl, costs_of_encode rfl (by decide) rfl rfl,
    fun n => ⟨encodedAs_two rfl rfl fun _ => rfl, costs_of_encode rfl (by decide) rfl rfl⟩,
    fun nn => ⟨encodedAs_word nn rfl rfl fun _ _ => rfl, costs_of_encode rfl (by decide) rfl rfl⟩,
    fun s n nn => ⟨rfl, rfl, ?_, ?_, ?_, ?_, rfl⟩⟩
  · exact ⟨_, rfl, (toNat_hl_setHL _ _).trans (toNat_add_one _), rfl⟩
  · exact ⟨_, rfl, (toNat_hl_setHL _ _).trans (toNat_sub_one _), rfl⟩
  · rw [← ioAddr_eq]
    rfl
  · rw [← ioAddr_eq]
    rfl

/-- Settles O14: each store is a bus write to the address of its rule. -/
theorem accumulatorStoreResults : Obligations.AccumulatorStoreResults := by
  refine ⟨encodedAs_one rfl rfl fun _ _ => rfl, costs_of_encode rfl (by decide) rfl rfl,
    encodedAs_one rfl rfl fun _ _ => rfl, costs_of_encode rfl (by decide) rfl rfl,
    encodedAs_one rfl rfl fun _ _ => rfl, costs_of_encode rfl (by decide) rfl rfl,
    encodedAs_one rfl rfl fun _ _ => rfl, costs_of_encode rfl (by decide) rfl rfl,
    encodedAs_one rfl rfl fun _ _ => rfl, costs_of_encode rfl (by decide) rfl rfl,
    fun n => ⟨encodedAs_two rfl rfl fun _ => rfl, costs_of_encode rfl (by decide) rfl rfl⟩,
    fun nn => ⟨encodedAs_word nn rfl rfl fun _ _ => rfl, costs_of_encode rfl (by decide) rfl rfl⟩,
    fun s n nn => ⟨?_, ?_, ?_, ?_, ?_, ?_, ?_⟩⟩
  · exact ⟨_, rfl, storeFrame_busWrite s _ _⟩
  · exact ⟨_, rfl, storeFrame_busWrite s _ _⟩
  · exact ⟨_, _, storeFrame_busWrite s _ _, rfl, (toNat_hl_setHL _ _).trans (toNat_add_one _), rfl⟩
  · exact ⟨_, _, storeFrame_busWrite s _ _, rfl, (toNat_hl_setHL _ _).trans (toNat_sub_one _), rfl⟩
  · rw [← ioAddr_eq]
    exact ⟨_, rfl, storeFrame_busWrite s _ _⟩
  · rw [← ioAddr_eq]
    exact ⟨_, rfl, storeFrame_busWrite s _ _⟩
  · exact ⟨_, rfl, storeFrame_busWrite s _ _⟩

end Sys2Proof.Machine
end

section
/-! PROOF. The 8-bit loads (spec/40_block0.md R152, R153, spec/41_block1.md R171, R172, R174). -/

namespace Sys2Proof.Machine

/-- The load matrix, but for its `HALT` entry (R170). -/
theorem exec_ldInstr {dst src : Opnd} (h : ¬(dst = .indHL ∧ src = .indHL)) (s : State) :
    exec (ldInstr dst src) s = .next (s.ld8 dst src) := by
  cases dst with
  | b | c | d | e | h | l | a =>
    cases src with
    | b | c | d | e | h | l | indHL | a => rfl
  | indHL =>
    cases src with
    | indHL => exact absurd ⟨rfl, rfl⟩ h
    | b | c | d | e | h | l | a => rfl

theorem ldInstr_encoding (dst src : Opnd) :
    EncodedAs (ldInstr dst src) [BitVec.ofNat 8 (0x40 + 8 * dst.code + src.code)] := by
  cases dst with
  | b | c | d | e | h | l | indHL | a =>
    cases src with
    | b | c | d | e | h | l | indHL | a => exact encodedAs_one rfl rfl fun _ _ => rfl

/-- A load into a register takes a second M-cycle only to read memory. -/
theorem ldInstr_costs {dst : Opnd} (src : Opnd) (hdst : dst ≠ .indHL) :
    Costs (ldInstr dst src) (if src = .indHL then 2 else 1) := by
  cases dst with
  | indHL => exact absurd rfl hdst
  | b | c | d | e | h | l | a =>
    cases src with
    | b | c | d | e | h | l | indHL | a => exact costs_of_encode rfl (by decide) rfl rfl

theorem ldInstr_indHL_costs {src : Opnd} (hsrc : src ≠ .indHL) : Costs (ldInstr .indHL src) 2 := by
  cases src with
  | indHL => exact absurd rfl hsrc
  | b | c | d | e | h | l | a => exact costs_of_encode rfl (by decide) rfl rfl

theorem exec_ldImmInstr (dst : Opnd) (n : Byte) (s : State) : exec (ldImmInstr dst n) s = .next (s.setOp8 dst n) := by
  cases dst with
  | b | c | d | e | h | l | indHL | a => rfl

theorem ldImmInstr_encoding (dst : Opnd) (n : Byte) :
    EncodedAs (ldImmInstr dst n) [BitVec.ofNat 8 (0x06 + 8 * dst.code), n] := by
  cases dst with
  | b | c | d | e | h | l | indHL | a => exact encodedAs_two rfl rfl fun _ => rfl

theorem ldImmInstr_costs (dst : Opnd) (n : Byte) : Costs (ldImmInstr dst n) (if dst = .indHL then 3 else 2) := by
  cases dst with
  | b | c | d | e | h | l | indHL | a => exact costs_of_encode rfl (by decide) rfl rfl

/-- Settles O16: each load is the write of its register, which touches nothing else. -/
theorem loadRegisterResults : Obligations.LoadRegisterResults := by
  refine ⟨fun dst src s hdst => ⟨ldInstr_encoding dst src, ldInstr_costs src hdst, _,
      exec_ldInstr (fun h => hdst h.1) s, regFrame_setOp8 s _ hdst, setOp8_f s dst _, ?_⟩,
    fun dst n s hdst => ⟨ldImmInstr_encoding dst n, ?_, _, exec_ldImmInstr dst n s, regFrame_setOp8 s n hdst,
      setOp8_f s dst n, op8_setOp8_same s n hdst⟩⟩
  · refine (op8_setOp8_same s _ hdst).trans ?_
    cases src with
    | b | c | d | e | h | l | indHL | a => rfl
  · have cost := ldImmInstr_costs dst n
    rwa [if_neg hdst] at cost

/-- Settles O17: a write to the operand `(HL)` is a store to the address HL. -/
theorem storeThroughHlResults : Obligations.StoreThroughHlResults :=
  ⟨fun src s hsrc => ⟨ldInstr_encoding .indHL src, ldInstr_indHL_costs hsrc, _,
      exec_ldInstr (fun h => hsrc h.2) s, storeFrame_busWrite s _ _⟩,
    fun n s => ⟨ldImmInstr_encoding .indHL n, ldImmInstr_costs .indHL n, _, exec_ldImmInstr .indHL n s,
      storeFrame_busWrite s _ _⟩⟩

end Sys2Proof.Machine
end

section
/-! PROOF. The ALU operations on A (spec/42_block2.md R181 to R199, spec/43_block3.md R235 to R242). -/

namespace Sys2Proof

/-- The index of an operation in the table `alu` (R107). -/
def AluOp.code : AluOp → Nat
  | .add => 0 | .adc => 1 | .sub => 2 | .sbc => 3 | .and => 4 | .xor => 5 | .or => 6 | .cp => 7

end Sys2Proof

namespace Sys2Proof.Machine

theorem exec_aluInstr (op : AluOp) (o : Opnd) (s : State) : exec (aluInstr op o) s = .next (s.alu op (s.op8 o)) := by
  cases op with
  | add | adc | sub | sbc | and | xor | or | cp =>
    cases o with
    | b | c | d | e | h | l | indHL | a => rfl

theorem exec_aluImmInstr (op : AluOp) (n : Byte) (s : State) : exec (aluImmInstr op n) s = .next (s.alu op n) := by
  cases op with
  | add | adc | sub | sbc | and | xor | or | cp => rfl

/-- An operation takes its byte from an operand or as an immediate, and does the same with either. -/
theorem exec_of_aluForm (op : AluOp) {s : State} {i : Instr} {v : Byte}
    (form : (∃ o, i = aluInstr op o ∧ v = s.op8 o) ∨ i = aluImmInstr op v) : exec i s = .next (s.alu op v) := by
  obtain ⟨o, rfl, rfl⟩ | rfl := form
  · exact exec_aluInstr op o s
  · exact exec_aluImmInstr op v s

theorem aluInstr_encoding (op : AluOp) (o : Opnd) :
    EncodedAs (aluInstr op o) [BitVec.ofNat 8 (0x80 + 8 * op.code + o.code)] := by
  cases op with
  | add | adc | sub | sbc | and | xor | or | cp =>
    cases o with
    | b | c | d | e | h | l | indHL | a => exact encodedAs_one rfl rfl fun _ _ => rfl

theorem aluImmInstr_encoding (op : AluOp) (n : Byte) :
    EncodedAs (aluImmInstr op n) [BitVec.ofNat 8 (0xC6 + 8 * op.code), n] := by
  cases op with
  | add | adc | sub | sbc | and | xor | or | cp => exact encodedAs_two rfl rfl fun _ => rfl

theorem aluInstr_costs (op : AluOp) (o : Opnd) : Costs (aluInstr op o) (if o = .indHL then 2 else 1) := by
  cases op with
  | add | adc | sub | sbc | and | xor | or | cp =>
    cases o with
    | b | c | d | e | h | l | indHL | a => exact costs_of_encode rfl (by decide) rfl rfl

theorem aluImmInstr_costs (op : AluOp) (n : Byte) : Costs (aluImmInstr op n) 2 := by
  cases op with
  | add | adc | sub | sbc | and | xor | or | cp => exact costs_of_encode rfl (by decide) rfl rfl

/-- The difference modulo 256; a borrow of 256 (R182) leaves A as it was. -/
theorem toNat_sub8_res (a b : Byte) (c : Bool) :
    (sub8 a b c).res.toNat = (a.toNat + 512 - b.toNat - c.toNat) % 256 := by
  have hb := b.isLt
  have hc := c.toNat_le
  refine (BitVec.toNat_ofInt _).trans ?_
  omega

/-- Settles O19: each form puts the result of `add8` into A, with the carry it adds. -/
theorem addResults : Obligations.AddResults := by
  refine ⟨fun o => ⟨aluInstr_encoding .add o, aluInstr_costs .add o, aluInstr_encoding .adc o, aluInstr_costs .adc o⟩,
    fun n => ⟨aluImmInstr_encoding .add n, aluImmInstr_costs .add n, aluImmInstr_encoding .adc n,
      aluImmInstr_costs .adc n⟩, fun s i v cin form => ?_⟩
  obtain ⟨c, rfl, hexec⟩ : ∃ c : Bool, cin = c.toNat ∧ exec i s = .next (s.putResult .a (add8 s.a v c)) := by
    obtain ⟨o, rfl, rfl, rfl⟩ | ⟨rfl, rfl⟩ | ⟨o, rfl, rfl, rfl⟩ | ⟨rfl, rfl⟩ := form
    · exact ⟨false, rfl, exec_aluInstr .add o s⟩
    · exact ⟨false, rfl, exec_aluImmInstr .add v s⟩
    · exact ⟨s.fC, rfl, exec_aluInstr .adc o s⟩
    · exact ⟨s.fC, rfl, exec_aluImmInstr .adc v s⟩
  exact ⟨_, hexec, BitVec.toNat_ofNat _ _, rfl⟩

/-- Settles O20: each form takes the flags of `sub8` with the carry it subtracts, and all but CP put its result
into A. -/
theorem subtractResults : Obligations.SubtractResults := by
  refine ⟨fun o => ⟨aluInstr_encoding .sub o, aluInstr_costs .sub o, aluInstr_encoding .sbc o, aluInstr_costs .sbc o,
      aluInstr_encoding .cp o, aluInstr_costs .cp o⟩,
    fun n => ⟨aluImmInstr_encoding .sub n, aluImmInstr_costs .sub n, aluImmInstr_encoding .sbc n,
      aluImmInstr_costs .sbc n, aluImmInstr_encoding .cp n, aluImmInstr_costs .cp n⟩, fun s i v cin writes form => ?_⟩
  obtain ⟨c, rfl, hexec⟩ : ∃ c : Bool, cin = c.toNat ∧ exec i s = .next
      (State.setResultFlags { s with a := if writes = true then (sub8 s.a v c).res else s.a } (sub8 s.a v c)) := by
    obtain ⟨o, rfl, rfl, rfl, rfl⟩ | ⟨rfl, rfl, rfl⟩ | ⟨o, rfl, rfl, rfl, rfl⟩ | ⟨rfl, rfl, rfl⟩ |
      ⟨o, rfl, rfl, rfl, rfl⟩ | ⟨rfl, rfl, rfl⟩ := form
    · exact ⟨false, rfl, exec_aluInstr .sub o s⟩
    · exact ⟨false, rfl, exec_aluImmInstr .sub v s⟩
    · exact ⟨s.fC, rfl, exec_aluInstr .sbc o s⟩
    · exact ⟨s.fC, rfl, exec_aluImmInstr .sbc v s⟩
    · exact ⟨false, rfl, exec_aluInstr .cp o s⟩
    · exact ⟨false, rfl, exec_aluImmInstr .cp v s⟩
  exact ⟨_, _, hexec, toNat_sub8_res s.a v c, rfl⟩

/-- Settles O21: each form puts the result of `and8`, `xor8` or `or8` into A. -/
theorem logicResults : Obligations.LogicResults :=
  ⟨fun o => ⟨aluInstr_encoding .and o, aluInstr_costs .and o, aluInstr_encoding .xor o, aluInstr_costs .xor o,
      aluInstr_encoding .or o, aluInstr_costs .or o⟩,
    fun n => ⟨aluImmInstr_encoding .and n, aluImmInstr_costs .and n, aluImmInstr_encoding .xor n,
      aluImmInstr_costs .xor n, aluImmInstr_encoding .or n, aluImmInstr_costs .or n⟩,
    fun _ _ _ => ⟨exec_of_aluForm .and, exec_of_aluForm .xor, exec_of_aluForm .or⟩⟩

end Sys2Proof.Machine
end

section
/-! PROOF. The sums of SP and a displacement (spec/00_scope.md R8, spec/43_block3.md R213, R215, R244). -/

namespace Sys2Proof.Machine

/-- The sum takes the displacement with its sign, while `addSP`'s carries take the raw byte (R244). -/
theorem toNat_addSP_fst (sp : Word) (e : Byte) :
    (addSP sp e).1.toNat = (sp.toNat + (if e.toNat < 128 then e.toNat else e.toNat + 0xFF00)) % 65536 :=
  (congrArg BitVec.toNat (add_sext16 sp e)).trans (BitVec.toNat_ofNat _ _)

/-- Settles O23: both instructions take the sum and the two carries of `addSP`, the one into SP, the other
into HL. -/
theorem stackPointerDisplacementResults : Obligations.StackPointerDisplacementResults := by
  refine fun e s => ⟨encodedAs_two rfl rfl fun _ => rfl, costs_of_encode rfl (by decide) rfl rfl,
    encodedAs_two rfl rfl fun _ => rfl, costs_of_encode rfl (by decide) rfl rfl, ?_, ?_⟩
  · exact ⟨_, rfl, toNat_addSP_fst s.sp e, rfl⟩
  · exact ⟨_, rfl, (toNat_hl_setHL s _).trans (toNat_addSP_fst s.sp e), rfl⟩

end Sys2Proof.Machine
end

section
/-! PROOF. The CB page: the rotates and shifts, and the bit operations (spec/44_cb_prefixed.md R260 to R283). -/

namespace Sys2Proof.Machine

/-- A row of the CB page: the encoding is the prefix and the second opcode, which alone gives the count
(R102, R307). -/
theorem encodedAs_and_costs_of_cbInstr {i : Instr} {op2 : Byte} {m : Nat} (henc : encode i = [0xCB#8, op2])
    (hdec : cbInstr op2 = i) (hm : CycleTable.default.cbCount op2 = m) :
    EncodedAs i [0xCB#8, op2] ∧ Costs i m := by
  refine ⟨encodedAs_two henc rfl fun _ => hdec, fun s hs => ?_⟩
  rw [mCycles, henc, hs]
  exact hm

theorem rotInstr_encoding_and_costs (r : RotOp) (o : Opnd) :
    EncodedAs (rotInstr r o) [0xCB#8, BitVec.ofNat 8 (8 * r.code + o.code)] ∧
      Costs (rotInstr r o) (if o = .indHL then 4 else 2) := by
  cases r with
  | rlc | rrc | rl | rr | sla | sra | swap | srl =>
    cases o with
    | b | c | d | e | h | l | indHL | a => exact encodedAs_and_costs_of_cbInstr rfl rfl rfl

theorem bitInstr_encoding_and_costs (n : Idx) (o : Opnd) :
    EncodedAs (bitInstr n o) [0xCB#8, BitVec.ofNat 8 (0x40 + 8 * n.val + o.code)] ∧
      Costs (bitInstr n o) (if o = .indHL then 3 else 2) := by
  cases n with
  | i0 | i1 | i2 | i3 | i4 | i5 | i6 | i7 =>
    cases o with
    | b | c | d | e | h | l | indHL | a => exact encodedAs_and_costs_of_cbInstr rfl rfl rfl

theorem resInstr_encoding_and_costs (n : Idx) (o : Opnd) :
    EncodedAs (resInstr n o) [0xCB#8, BitVec.ofNat 8 (0x80 + 8 * n.val + o.code)] ∧
      Costs (resInstr n o) (if o = .indHL then 4 else 2) := by
  cases n with
  | i0 | i1 | i2 | i3 | i4 | i5 | i6 | i7 =>
    cases o with
    | b | c | d | e | h | l | indHL | a => exact encodedAs_and_costs_of_cbInstr rfl rfl rfl

theorem setInstr_encoding_and_costs (n : Idx) (o : Opnd) :
    EncodedAs (setInstr n o) [0xCB#8, BitVec.ofNat 8 (0xC0 + 8 * n.val + o.code)] ∧
      Costs (setInstr n o) (if o = .indHL then 4 else 2) := by
  cases n with
  | i0 | i1 | i2 | i3 | i4 | i5 | i6 | i7 =>
    cases o with
    | b | c | d | e | h | l | indHL | a => exact encodedAs_and_costs_of_cbInstr rfl rfl rfl

theorem exec_rotInstr (r : RotOp) (o : Opnd) (s : State) : exec (rotInstr r o) s = .next (s.rot r o) := by
  cases r with
  | rlc | rrc | rl | rr | sla | sra | swap | srl =>
    cases o with
    | b | c | d | e | h | l | indHL | a => rfl

theorem exec_bitInstr (n : Idx) (o : Opnd) (s : State) : exec (bitInstr n o) s = .next (s.bitTest n o) := by
  cases n with
  | i0 | i1 | i2 | i3 | i4 | i5 | i6 | i7 =>
    cases o with
    | b | c | d | e | h | l | indHL | a => rfl

theorem exec_resInstr (n : Idx) (o : Opnd) (s : State) : exec (resInstr n o) s = .next (s.bitReset n o) := by
  cases n with
  | i0 | i1 | i2 | i3 | i4 | i5 | i6 | i7 =>
    cases o with
    | b | c | d | e | h | l | indHL | a => rfl

theorem exec_setInstr (n : Idx) (o : Opnd) (s : State) : exec (setInstr n o) s = .next (s.bitSet n o) := by
  cases n with
  | i0 | i1 | i2 | i3 | i4 | i5 | i6 | i7 =>
    cases o with
    | b | c | d | e | h | l | indHL | a => rfl

/-- Settles O31: each writes the result of `rotFn` and its flags to its register. -/
theorem cbRotateRegisterResults : Obligations.CbRotateRegisterResults := by
  refine ⟨fun r o ho => ?_, fun r o s ho => ?_⟩
  · have row := rotInstr_encoding_and_costs r o
    rwa [if_neg ho] at row
  · have res : (s.rot r o).op8 o = (rotFn r (s.op8 o) s.fC).1 := op8_putResult_same s _ ho
    refine ⟨_, (rotFn r (s.op8 o) s.fC).2, exec_rotInstr r o s, regFrame_putResult s _ ho, ?_, ?_⟩
    · rw [res]
      rfl
    · cases r with
      | rlc | rrc | rl | rr | sla | sra | swap | srl => exact ⟨res, rfl⟩

/-- Settles O32: the write of the result to the operand `(HL)` is a store to the address HL. -/
theorem cbRotateMemoryResults : Obligations.CbRotateMemoryResults := by
  refine ⟨fun r => rotInstr_encoding_and_costs r .indHL, fun r s => ⟨_, (rotFn r (s.op8 .indHL) s.fC).1,
    (rotFn r (s.op8 .indHL) s.fC).2, storeFrame_busWrite s _ _, exec_rotInstr r .indHL s, ?_⟩⟩
  cases r with
  | rlc | rrc | rl | rr | sla | sra | swap | srl => exact ⟨rfl, rfl⟩

/-- The operand `(HL)` is read from the bus, every other from its register (R9). -/
theorem op8_eq_ite (s : State) (o : Opnd) :
    s.op8 o = if o = .indHL then s.busRead (s.h ++ s.l) else s.op8 o := by
  split
  · next h => rw [h]; rfl
  · rfl

/-- Settles O33: both forms are `State.bitTest`, which writes F alone. -/
theorem bitTestResults : Obligations.BitTestResults := by
  intro n o s
  obtain ⟨encoding, costs⟩ := bitInstr_encoding_and_costs n o
  refine ⟨encoding, costs, ?_⟩
  rw [← op8_eq_ite]
  exact exec_bitInstr n o s

theorem idx_val_lt (n : Idx) : n.val < 8 := by
  cases n with
  | i0 | i1 | i2 | i3 | i4 | i5 | i6 | i7 => decide

/-- The mask `1 << b` has bit `b` and no other. -/
theorem getLsbD_bitMask (n : Idx) (j : Nat) : (bitMask n).getLsbD j = decide (j = n.val) := by
  rw [bitMask, BitVec.getLsbD_twoPow, decide_eq_true (idx_val_lt n), Bool.true_and]
  exact decide_eq_decide.2 eq_comm

/-- RES clears bit `b` and keeps the others (R280). -/
theorem getLsbD_and_not_bitMask (v : Byte) (n : Idx) (j : Nat) :
    (v &&& ~~~bitMask n).getLsbD j = (decide (j ≠ n.val) && v.getLsbD j) := by
  rw [BitVec.getLsbD_and, BitVec.getLsbD_not, getLsbD_bitMask, decide_not]
  by_cases hj : j < 8
  · rw [decide_eq_true hj, Bool.true_and, Bool.and_comm]
  · rw [BitVec.getLsbD_of_ge v j (Nat.not_lt.1 hj), Bool.false_and, Bool.and_false]

/-- SET sets bit `b` and keeps the others (R282). -/
theorem getLsbD_or_bitMask (v : Byte) (n : Idx) (j : Nat) :
    (v ||| bitMask n).getLsbD j = (decide (j = n.val) || v.getLsbD j) := by
  rw [BitVec.getLsbD_or, getLsbD_bitMask, Bool.or_comm]

/-- Settles O34: each form writes its operand, masked by `bitMask`, and nothing else. -/
theorem bitResetAndSetResults : Obligations.BitResetAndSetResults := by
  refine ⟨fun n o => ?_, fun n o s ho => ⟨?_, ?_⟩, fun n s => ?_⟩
  · obtain ⟨resEncoding, resCosts⟩ := resInstr_encoding_and_costs n o
    exact ⟨resEncoding, resCosts, setInstr_encoding_and_costs n o⟩
  · refine ⟨_, exec_resInstr n o s, regFrame_setOp8 s _ ho, setOp8_f s o _, fun j => ?_⟩
    rw [State.bitReset, op8_setOp8_same s _ ho, getLsbD_and_not_bitMask]
  · refine ⟨_, exec_setInstr n o s, regFrame_setOp8 s _ ho, setOp8_f s o _, fun j => ?_⟩
    rw [State.bitSet, op8_setOp8_same s _ ho, getLsbD_or_bitMask]
  · exact ⟨_, _, _, _, exec_resInstr n .indHL s, storeFrame_busWrite s _ _, getLsbD_and_not_bitMask _ n,
      exec_setInstr n .indHL s, storeFrame_busWrite s _ _, getLsbD_or_bitMask _ n⟩

end Sys2Proof.Machine
end

section
/-! PROOF. Every instruction is a row of the two opcode pages (spec/30_encoding.md R102, R103, R119, R121). -/

namespace Sys2Proof

/-- The decoder reads the instruction from the bytes the encoder writes for it. -/
def ReadsBack (i : Instr) : Prop :=
  ∃ b0 rest, encode i = b0 :: rest ∧ decode3 b0 (rest.getD 0 0#8) (rest.getD 1 0#8) = i

theorem readsBack_word {instr : Word → Instr} {b0 : Byte} (nn : Word)
    (henc : encode (instr nn) = [b0, loByte nn, hiByte nn])
    (hdec : ∀ b1 b2, decode3 b0 b1 b2 = instr (wordOf b2 b1)) : ReadsBack (instr nn) :=
  ⟨b0, _, henc, (hdec _ _).trans (congrArg instr (Machine.wordOf_hiByte_loByte nn))⟩

/-- The prefix row alone is a second spelling (R121). A word operand is taken apart and put together again;
every other operand is a byte. -/
theorem readsBack_or_prefix (i : Instr) : ReadsBack i ∨ ∃ op2, i = .prefix_CB op2 := by
  cases i with
  | prefix_CB op2 => exact .inr ⟨op2, rfl⟩
  | ld_BC_nn nn | ld_DE_nn nn | ld_HL_nn nn | ld_SP_nn nn | ld_inn_SP nn | ld_inn_A nn | ld_A_inn nn
  | jp_nn nn | jp_NZ_nn nn | jp_Z_nn nn | jp_NC_nn nn | jp_C_nn nn
  | call_nn nn | call_NZ_nn nn | call_Z_nn nn | call_NC_nn nn | call_C_nn nn =>
    exact .inl (readsBack_word nn rfl fun _ _ => rfl)
  | _ => exact .inl ⟨_, _, rfl, rfl⟩

/-- What holds of the rows of both pages holds of every instruction. -/
theorem forall_instr_of_pages {P : Instr → Prop} (hpage : ∀ b0 b1 b2, P (page0 b0 b1 b2))
    (hcb : ∀ op2, P (cbInstr op2)) (i : Instr) : P i := by
  obtain ⟨b0, rest, -, rfl⟩ | ⟨op2, rfl⟩ := readsBack_or_prefix i
  · unfold decode3
    split
    · exact hcb _
    · exact hpage _ _ _
  · exact hpage 0xCB#8 op2 0#8

/-- The rows of the eleven undefined opcodes, whatever bytes follow (R119). -/
theorem page0_mem_undefinedInstrs {b0 : Byte} (h : b0 ∈ undefinedOpcodes) (b1 b2 : Byte) :
    page0 b0 b1 b2 ∈ undefinedInstrs :=
  (List.mem_map_of_mem h : page0 b0 b1 b2 ∈ undefinedOpcodes.map fun op => page0 op b1 b2)

end Sys2Proof
end

section
/-! PROOF. Every instruction completes in 1 to 6 M-cycles (spec/60_exceptions.md R307, R330, R370,
spec/70_reset_and_hazards.md R415, R416). -/

namespace Sys2Proof.Machine

/-- `t` has the parameters (R7, R416) and the driver's count (R370) of `s`. -/
def SameDriver (s t : State) : Prop := t.params = s.params ∧ t.frameElapsed = s.frameElapsed

/-- The instruction answers a next state, which has the driver's data of `s` (R330). -/
def Completes (i : Instr) (s : State) : Prop := ∃ t, exec i s = .next t ∧ SameDriver s t

/-! The shared operations. A plain update of the CPU's fields keeps the driver's data by definition; the operations
that store to the bus or branch on an operand have a lemma each. -/

theorem SameDriver.refl (s : State) : SameDriver s s := ⟨rfl, rfl⟩

theorem SameDriver.trans {s t u : State} (h : SameDriver s t) (h' : SameDriver t u) : SameDriver s u :=
  ⟨h'.1.trans h.1, h'.2.trans h.2⟩

theorem sameDriver_busWrite (s : State) (x : Word) (v : Byte) : SameDriver s (s.busWrite x v) :=
  ⟨(congrArg State.params (busWrite_same s x v) :), (congrArg State.frameElapsed (busWrite_same s x v) :)⟩

theorem sameDriver_memWrite16 (s : State) (x v : Word) : SameDriver s (s.memWrite16 x v) :=
  (sameDriver_busWrite s x _).trans (sameDriver_busWrite _ _ _)

theorem sameDriver_push8 (s : State) (v : Byte) : SameDriver s (s.push8 v) :=
  .trans (t := { s with sp := s.sp - 1#16 }) ⟨rfl, rfl⟩ (sameDriver_busWrite _ _ _)

theorem sameDriver_push16 (s : State) (v : Word) : SameDriver s (s.push16 v) :=
  (sameDriver_push8 s _).trans (sameDriver_push8 _ _)

theorem sameDriver_call (s : State) (nn : Word) : SameDriver s (s.call nn) := sameDriver_push16 s s.pc

theorem sameDriver_setOp8 (s : State) (o : Opnd) (v : Byte) : SameDriver s (s.setOp8 o v) := by
  cases o with
  | indHL => exact sameDriver_busWrite s s.hl v
  | b | c | d | e | h | l | a => exact ⟨rfl, rfl⟩

theorem sameDriver_putResult (s : State) (o : Opnd) (r : AluResult) : SameDriver s (s.putResult o r) :=
  sameDriver_setOp8 s o r.res

theorem sameDriver_setRp (s : State) (p : Rp) (v : Word) : SameDriver s (s.setRp p v) := by
  cases p with
  | bc | de | hl | sp => exact ⟨rfl, rfl⟩

theorem sameDriver_pop (s : State) (p : Rp2) : SameDriver s (s.pop p) := by
  cases p with
  | bc | de | hl | af => exact ⟨rfl, rfl⟩

theorem sameDriver_alu (s : State) (op : AluOp) (v : Byte) : SameDriver s (s.alu op v) := by
  cases op with
  | add | adc | sub | sbc | and | xor | or | cp => exact ⟨rfl, rfl⟩

theorem sameDriver_halt (s : State) : SameDriver s s.halt :=
  ite_holds (P := SameDriver s) (fun _ => ⟨rfl, rfl⟩) fun _ => ⟨rfl, rfl⟩

/-! The tables: each family of rows is one shared operation over its operands. -/

theorem exec_ldRpInstr (p : Rp) (nn : Word) (s : State) : exec (ldRpInstr p nn) s = .next (s.setRp p nn) := by
  cases p with
  | bc | de | hl | sp => rfl

theorem exec_addHlInstr (p : Rp) (s : State) : exec (addHlInstr p) s = .next (s.addHL p) := by
  cases p with
  | bc | de | hl | sp => rfl

theorem exec_popInstr (p : Rp2) (s : State) : exec (popInstr p) s = .next (s.pop p) := by
  cases p with
  | bc | de | hl | af => rfl

theorem exec_pushInstr (p : Rp2) (s : State) : exec (pushInstr p) s = .next (s.push16 (s.rp2 p)) := by
  cases p with
  | bc | de | hl | af => rfl

theorem exec_retCcInstr (cc : Cond) (s : State) :
    exec (retCcInstr cc) s = .next (if s.cond cc = true then s.returnPc else s) := by
  cases cc with
  | nz | z | nc | c => rfl

theorem exec_callCcInstr (cc : Cond) (nn : Word) (s : State) :
    exec (callCcInstr cc nn) s = .next (if s.cond cc = true then s.call nn else s) := by
  cases cc with
  | nz | z | nc | c => rfl

theorem exec_rstInstr (y : Idx) (s : State) :
    exec (rstInstr y) s = .next (s.call (BitVec.ofNat 16 (8 * y.val))) := by
  cases y with
  | i0 | i1 | i2 | i3 | i4 | i5 | i6 | i7 => rfl

theorem accInstr_completes (op : AccOp) (s : State) : Completes (accInstr op) s := by
  cases op with
  | rlca | rrca | rla | rra | daa | cpl | scf | ccf => exact ⟨_, rfl, rfl, rfl⟩

/-- A conditional instruction either does its operation or changes nothing. -/
theorem completes_of_cond {i : Instr} {s t : State} {taken : Bool}
    (hexec : exec i s = .next (if taken = true then t else s)) (ht : SameDriver s t) : Completes i s :=
  ⟨_, hexec, ite_holds (P := SameDriver s) (fun _ => ht) fun _ => .refl s⟩

/-- The load matrix with its `HALT` entry (R170). -/
theorem ldInstr_completes (dst src : Opnd) (s : State) : Completes (ldInstr dst src) s := by
  by_cases h : dst = .indHL ∧ src = .indHL
  · obtain ⟨rfl, rfl⟩ := h
    exact ⟨s.halt, rfl, sameDriver_halt s⟩
  · exact ⟨_, exec_ldInstr h s, sameDriver_setOp8 s dst _⟩

/-- A row of the CB page does what the page does with the fields of the second opcode (R260). -/
theorem exec_cbInstr (op2 : Byte) (s : State) : exec (cbInstr op2) s = .next (s.cbPage op2) := by
  unfold cbInstr State.cbPage
  generalize fieldX op2 = x
  match x with
  | 0 => exact exec_rotInstr _ _ s
  | 1 => exact exec_bitInstr _ _ s
  | 2 => exact exec_resInstr _ _ s
  | _ + 3 => exact exec_setInstr _ _ s

theorem sameDriver_cbPage (s : State) (op2 : Byte) : SameDriver s (s.cbPage op2) := by
  unfold State.cbPage
  split
  · exact sameDriver_putResult s _ _
  · exact ⟨rfl, rfl⟩
  · exact sameDriver_setOp8 s _ _
  · exact sameDriver_setOp8 s _ _

/-! The blocks, row by row (R113 to R117). -/

theorem block0_completes (y z : Idx) (b1 b2 : Byte) (s : State) : Completes (block0 y z b1 b2) s := by
  unfold block0
  cases z with
  | i0 =>
    cases y with
    | i0 | i2 | i3 => exact ⟨_, rfl, rfl, rfl⟩
    | i1 => exact ⟨_, rfl, sameDriver_memWrite16 s _ _⟩
    | i4 | i5 | i6 | i7 => exact completes_of_cond (exec_jrCcInstr _ b1 s) ⟨rfl, rfl⟩
  | i1 =>
    cases y with
    | i0 | i2 | i4 | i6 => exact ⟨_, exec_ldRpInstr _ _ s, sameDriver_setRp s _ _⟩
    | i1 | i3 | i5 | i7 => exact ⟨_, exec_addHlInstr _ s, rfl, rfl⟩
  | i2 =>
    cases y with
    | i0 | i2 | i4 | i6 => exact ⟨_, rfl, sameDriver_busWrite s _ _⟩
    | i1 | i3 | i5 | i7 => exact ⟨_, rfl, rfl, rfl⟩
  | i3 =>
    cases y with
    | i0 | i2 | i4 | i6 => exact ⟨_, exec_incRpInstr _ s, sameDriver_setRp s _ _⟩
    | i1 | i3 | i5 | i7 => exact ⟨_, exec_decRpInstr _ s, sameDriver_setRp s _ _⟩
  | i4 => exact ⟨_, exec_inc8Instr _ s, sameDriver_putResult s _ _⟩
  | i5 => exact ⟨_, exec_dec8Instr _ s, sameDriver_putResult s _ _⟩
  | i6 => exact ⟨_, exec_ldImmInstr _ b1 s, sameDriver_setOp8 s _ b1⟩
  | i7 => exact accInstr_completes _ s

theorem block3_completes (y z : Idx) (b1 b2 : Byte) (s : State) : Completes (block3 y z b1 b2) s := by
  unfold block3
  cases z with
  | i0 =>
    cases y with
    | i0 | i1 | i2 | i3 => exact completes_of_cond (exec_retCcInstr _ s) ⟨rfl, rfl⟩
    | i4 => exact ⟨_, rfl, sameDriver_busWrite s _ _⟩
    | i5 | i6 | i7 => exact ⟨_, rfl, rfl, rfl⟩
  | i1 =>
    cases y with
    | i0 | i2 | i4 | i6 => exact ⟨_, exec_popInstr _ s, sameDriver_pop s _⟩
    | i1 | i3 | i5 | i7 => exact ⟨_, rfl, rfl, rfl⟩
  | i2 =>
    cases y with
    | i0 | i1 | i2 | i3 => exact completes_of_cond (exec_jpCcInstr _ _ s) ⟨rfl, rfl⟩
    | i4 | i5 => exact ⟨_, rfl, sameDriver_busWrite s _ _⟩
    | i6 | i7 => exact ⟨_, rfl, rfl, rfl⟩
  | i3 =>
    cases y with
    | i0 | i2 | i3 | i4 | i5 | i6 => exact ⟨_, rfl, rfl, rfl⟩
    | i1 => exact ⟨_, rfl, sameDriver_cbPage s b1⟩
    | i7 => exact ⟨_, rfl, ite_holds (P := SameDriver s) (fun _ => ⟨rfl, rfl⟩) fun _ => .refl s⟩
  | i4 =>
    cases y with
    | i0 | i1 | i2 | i3 => exact completes_of_cond (exec_callCcInstr _ _ s) (sameDriver_call s _)
    | i4 | i5 | i6 | i7 => exact ⟨_, rfl, rfl, rfl⟩
  | i5 =>
    cases y with
    | i0 | i2 | i4 | i6 => exact ⟨_, exec_pushInstr _ s, sameDriver_push16 s _⟩
    | i1 => exact ⟨_, rfl, sameDriver_call s _⟩
    | i3 | i5 | i7 => exact ⟨_, rfl, rfl, rfl⟩
  | i6 => exact ⟨_, exec_aluImmInstr _ b1 s, sameDriver_alu s _ b1⟩
  | i7 => exact ⟨_, exec_rstInstr y s, sameDriver_call s _⟩

theorem page0_completes (b0 b1 b2 : Byte) (s : State) : Completes (page0 b0 b1 b2) s := by
  unfold page0
  split
  · exact block0_completes _ _ b1 b2 s
  · exact ldInstr_completes _ _ s
  · exact ⟨_, exec_aluInstr _ _ s, sameDriver_alu s _ _⟩
  · exact block3_completes _ _ b1 b2 s

theorem exec_completes (i : Instr) (s : State) : Completes i s :=
  forall_instr_of_pages (P := (Completes · s)) (fun b0 b1 b2 => page0_completes b0 b1 b2 s)
    (fun op2 => ⟨_, exec_cbInstr op2 s, sameDriver_cbPage s op2⟩) i

/-! The cycle table of R415. -/

theorem one_le_baseCount {op : Byte} : op ∉ undefinedOpcodes → op ≠ 0xCB#8 →
    1 ≤ CycleTable.default.baseCount op := by
  revert op
  decide

theorem one_le_cbCount (op2 : Byte) : 1 ≤ CycleTable.default.cbCount op2 := by
  revert op2
  decide

theorem one_le_of_mem_standardTaken : ∀ entry ∈ standardTaken, 1 ≤ entry.2 := by decide

theorem one_le_takenCount {op : Byte} (h : 1 ≤ CycleTable.default.baseCount op) :
    1 ≤ CycleTable.default.takenCount op := by
  unfold CycleTable.takenCount
  split
  · next entry hfind => exact one_le_of_mem_standardTaken entry (List.mem_of_find?_eq_some hfind)
  · exact h

theorem one_le_opCycles {op : Byte} {s : State} (hs : s.params.cycles = .default) (hdef : op ∉ undefinedOpcodes)
    (hop : op ≠ 0xCB#8) : 1 ≤ opCycles op s := by
  have base := one_le_baseCount hdef hop
  unfold opCycles
  rw [hs]
  split
  · exact ite_holds (P := (1 ≤ ·)) (fun _ => one_le_takenCount base) fun _ => base
  · exact base

/-- A CB-page instruction's count is the second opcode's (R307). -/
theorem mCycles_of_encode_prefix {i : Instr} {rest : List Byte} (henc : encode i = 0xCB#8 :: rest) (s : State) :
    mCycles i s = s.params.cycles.cbCount (rest.getD 0 0#8) := by
  rw [mCycles, henc]
  exact if_pos rfl

/-- Only the undefined opcodes and the prefix have an entry of 0, and the CB page counts what follows the prefix. -/
theorem one_le_mCycles {i : Instr} {s : State} (hs : s.params.cycles = .default) (hi : i ∉ undefinedInstrs) :
    1 ≤ mCycles i s := by
  obtain ⟨b0, rest, henc, hdec⟩ | ⟨op2, rfl⟩ := readsBack_or_prefix i
  · by_cases hcb : b0 = 0xCB#8
    · subst hcb
      rw [mCycles_of_encode_prefix henc, hs]
      exact one_le_cbCount _
    · rw [decode3, if_neg hcb] at hdec
      rw [mCycles_of_encode henc hcb]
      exact one_le_opCycles hs (fun hop => hi (hdec ▸ page0_mem_undefinedInstrs hop _ _)) hcb
  · rw [mCycles_of_encode_prefix rfl, hs]
    exact one_le_cbCount _

/-- Settles O35: every row of both pages completes by the operation it stands for; R415's entries bound the
counts. -/
theorem everyInstructionCompletes : Obligations.EveryInstructionCompletes :=
  ⟨exec_completes, fun i _ hs hi => ⟨one_le_mCycles hs hi, mCycles_le (hs ▸ boundedCycles_default) i⟩⟩

end Sys2Proof.Machine
end

section
/-! PROOF. Decoder and encoder are inverse to each other (spec/30_encoding.md R100 to R121). -/

namespace Sys2Proof

/-- The opcode byte of three fields (R100). -/
def opByte (x : Nat) (y z : Idx) : Byte := BitVec.ofNat 8 (64 * x + 8 * y.val + z.val)

theorem opByte_fields (op : Byte) : opByte (fieldX op) (fieldY op) (fieldZ op) = op := by
  revert op
  decide

theorem fieldX_lt (op : Byte) : fieldX op < 4 := (op.extractLsb' 6 2).isLt

/-- The encoding of `i` is as many of the three bytes as byte 0 tells (R118). -/
def Spells (i : Instr) (b0 b1 b2 : Byte) : Prop := encode i = [b0, b1, b2].take (lengthOf b0)

@[simp] theorem loByte_wordOf (hi lo : Byte) : loByte (wordOf hi lo) = lo :=
  BitVec.extractLsb'_append_eq_right

@[simp] theorem hiByte_wordOf (hi lo : Byte) : hiByte (wordOf hi lo) = hi :=
  BitVec.extractLsb'_append_eq_left

theorem spells_word {i : Instr} {b0 b1 b2 : Byte}
    (henc : encode i = [b0, loByte (wordOf b2 b1), hiByte (wordOf b2 b1)]) (hlen : lengthOf b0 = 3) :
    Spells i b0 b1 b2 := by
  rw [Spells, henc, hlen, loByte_wordOf, hiByte_wordOf]
  rfl

theorem block0_spells (y z : Idx) (b1 b2 : Byte) : Spells (block0 y z b1 b2) (opByte 0 y z) b1 b2 := by
  cases z with
  | i0 =>
    cases y with
    | i1 => exact spells_word rfl rfl
    | i0 | i2 | i3 | i4 | i5 | i6 | i7 => rfl
  | i1 =>
    cases y with
    | i0 | i2 | i4 | i6 => exact spells_word rfl rfl
    | i1 | i3 | i5 | i7 => rfl
  | i2 | i3 | i4 | i5 | i6 | i7 =>
    cases y with
    | i0 | i1 | i2 | i3 | i4 | i5 | i6 | i7 => rfl

theorem ldInstr_spells (y z : Idx) (b1 b2 : Byte) :
    Spells (ldInstr (opndOf y) (opndOf z)) (opByte 1 y z) b1 b2 := by
  cases y with
  | i0 | i1 | i2 | i3 | i4 | i5 | i6 | i7 =>
    cases z with
    | i0 | i1 | i2 | i3 | i4 | i5 | i6 | i7 => rfl

theorem aluInstr_spells (y z : Idx) (b1 b2 : Byte) :
    Spells (aluInstr (aluOf y) (opndOf z)) (opByte 2 y z) b1 b2 := by
  cases y with
  | i0 | i1 | i2 | i3 | i4 | i5 | i6 | i7 =>
    cases z with
    | i0 | i1 | i2 | i3 | i4 | i5 | i6 | i7 => rfl

theorem block3_spells (y z : Idx) (b1 b2 : Byte) : Spells (block3 y z b1 b2) (opByte 3 y z) b1 b2 := by
  cases z with
  | i0 | i1 | i6 | i7 =>
    cases y with
    | i0 | i1 | i2 | i3 | i4 | i5 | i6 | i7 => rfl
  | i2 =>
    cases y with
    | i0 | i1 | i2 | i3 | i5 | i7 => exact spells_word rfl rfl
    | i4 | i6 => rfl
  | i3 =>
    cases y with
    | i0 => exact spells_word rfl rfl
    | i1 | i2 | i3 | i4 | i5 | i6 | i7 => rfl
  | i4 =>
    cases y with
    | i0 | i1 | i2 | i3 => exact spells_word rfl rfl
    | i4 | i5 | i6 | i7 => rfl
  | i5 =>
    cases y with
    | i1 => exact spells_word rfl rfl
    | i0 | i2 | i3 | i4 | i5 | i6 | i7 => rfl

theorem page0_spells (b0 b1 b2 : Byte) : Spells (page0 b0 b1 b2) b0 b1 b2 := by
  have hlt := fieldX_lt b0
  have hb0 := opByte_fields b0
  unfold page0
  generalize fieldY b0 = y, fieldZ b0 = z at hb0
  generalize fieldX b0 = x at hlt hb0
  subst hb0
  match x with
  | 0 => exact block0_spells y z b1 b2
  | 1 => exact ldInstr_spells y z b1 b2
  | 2 => exact aluInstr_spells y z b1 b2
  | 3 => exact block3_spells y z b1 b2

theorem encode_cbInstr (op2 : Byte) : encode (cbInstr op2) = [0xCB#8, op2] := by
  revert op2
  decide

theorem cbInstr_wellFormed (op2 : Byte) : (cbInstr op2).wellFormed = true := by
  revert op2
  decide

/-- What the decoder reads is spelled by the bytes it read. -/
theorem encode_decode3 (b0 b1 b2 : Byte) : encode (decode3 b0 b1 b2) = [b0, b1, b2].take (lengthOf b0) := by
  unfold decode3
  split
  · next h => rw [h, encode_cbInstr]; rfl
  · exact page0_spells b0 b1 b2

theorem lengthOf_bounds (b0 : Byte) : 1 ≤ lengthOf b0 ∧ lengthOf b0 ≤ 3 := by
  unfold lengthOf
  split
  · decide
  · split <;> decide

theorem length_encode_decode3 (b0 b1 b2 : Byte) : (encode (decode3 b0 b1 b2)).length = lengthOf b0 := by
  rw [encode_decode3, List.length_take]
  exact Nat.min_eq_left (lengthOf_bounds b0).2

/-- Byte 0 of an encoding is the byte the decoder began with. -/
theorem head?_encode_decode3 (b0 b1 b2 : Byte) : (encode (decode3 b0 b1 b2)).head? = some b0 := by
  rw [encode_decode3, List.head?_take, if_neg (Nat.ne_of_gt (lengthOf_bounds b0).1)]
  rfl

theorem decode3_eq_of_encode {b0 b1 b2 b0' : Byte} {i : Instr} {rest : List Byte} (h : decode3 b0 b1 b2 = i)
    (henc : encode i = b0' :: rest) : b0 = b0' := by
  have head := head?_encode_decode3 b0 b1 b2
  rw [h, henc] at head
  exact (Option.some.inj head).symm

/-- The row of byte 0xCB is never what the decoder reads: its encoding begins with 0xCB, which selects the CB page
(R121). -/
theorem decode3_wellFormed (b0 b1 b2 : Byte) : (decode3 b0 b1 b2).wellFormed = true := by
  by_cases hcb : b0 = 0xCB#8
  · rw [decode3, if_pos hcb]
    exact cbInstr_wellFormed b1
  · generalize hi : decode3 b0 b1 b2 = i
    cases i with
    | prefix_CB op2 => exact absurd (decode3_eq_of_encode hi rfl) hcb
    | _ => rfl

theorem decode_eq_ok_iff {b0 : Byte} {tail : List Byte} {r : Instr × List Byte} :
    decode (b0 :: tail) = .ok r ↔ lengthOf b0 ≤ tail.length + 1 ∧
      r = (decode3 b0 (tail.getD 0 0#8) (tail.getD 1 0#8), tail.drop (lengthOf b0 - 1)) := by
  by_cases h : lengthOf b0 ≤ tail.length + 1
  · rw [decode_cons h]
    constructor
    · rintro ⟨⟩
      exact ⟨h, rfl⟩
    · rintro ⟨-, rfl⟩
      rfl
  · have error : decode (b0 :: tail) = .error (.truncated b0 (lengthOf b0)) := if_pos (Nat.not_le.1 h)
    rw [error]
    exact ⟨nofun, fun hr => absurd hr.1 h⟩

/-- Where there are enough bytes, missing ones count as zero beyond what the instruction takes. -/
theorem take_getD {n : Nat} (hn : n ≤ 3) {b0 : Byte} {tail : List Byte} (h : n ≤ tail.length + 1) :
    [b0, tail.getD 0 0#8, tail.getD 1 0#8].take n = (b0 :: tail).take n := by
  match n, tail with
  | 0, _ | 1, _ | 2, _ :: _ | 3, _ :: _ :: _ => rfl

/-- Settles O2: the bytes consumed are the encoding, by `encode_decode3`. -/
theorem encodeOfDecodeIsTheBytes : Obligations.EncodeOfDecodeIsTheBytes := by
  intro bytes i rest h
  cases bytes with
  | nil => cases h
  | cons b0 tail =>
    obtain ⟨hlen, hr⟩ := decode_eq_ok_iff.1 h
    obtain ⟨rfl, rfl⟩ := Prod.mk.inj hr
    refine ⟨decode3_wellFormed _ _ _, ?_⟩
    obtain ⟨hone, hthree⟩ := lengthOf_bounds b0
    rw [encode_decode3, take_getD hthree hlen]
    obtain ⟨n, hn⟩ := Nat.exists_eq_add_of_le' hone
    rw [hn, List.take_succ_cons, Nat.add_sub_cancel, List.cons_append, List.take_append_drop]

/-- Two instructions of the decoder with one encoding are one. -/
theorem eq_of_encode_eq {i j : Instr} (hi : i.wellFormed = true) (hj : j.wellFormed = true)
    (h : encode i = encode j) : i = j := by
  obtain ⟨b, r, henc, hdec⟩ | ⟨op2, rfl⟩ := readsBack_or_prefix i
  · obtain ⟨b', r', henc', hdec'⟩ | ⟨op2, rfl⟩ := readsBack_or_prefix j
    · obtain ⟨rfl, rfl⟩ := List.cons.inj (henc.symm.trans (h.trans henc'))
      exact hdec.symm.trans hdec'
    · cases hj
  · cases hi

/-- The encoder writes as many bytes as byte 0 tells. -/
theorem lengthOf_eq_length_encode {i : Instr} {b0 : Byte} {r : List Byte} (hi : i.wellFormed = true)
    (henc : encode i = b0 :: r) : lengthOf b0 = r.length + 1 := by
  obtain ⟨b, r', henc', hdec⟩ | ⟨op2, rfl⟩ := readsBack_or_prefix i
  · obtain ⟨rfl, rfl⟩ := List.cons.inj (henc.symm.trans henc')
    rw [← length_encode_decode3 b0, hdec, henc]
    rfl
  · cases hi

/-- Settles O1: what the decoder reads from `encode i` has the encoding of `i`, so it is `i`. -/
theorem decodeOfEncodeIsTheInstruction : Obligations.DecodeOfEncodeIsTheInstruction := by
  intro i rest hi
  obtain ⟨b0, r, henc, -⟩ | ⟨op2, rfl⟩ := readsBack_or_prefix i
  · have hlen := lengthOf_eq_length_encode hi henc
    have enough : lengthOf b0 ≤ (r ++ rest).length + 1 := by rw [hlen, List.length_append]; omega
    rw [henc, List.cons_append, decode_cons enough]
    refine congrArg₂ (fun j l => Except.ok (j, l)) (eq_of_encode_eq (decode3_wellFormed _ _ _) hi ?_) ?_
    · rw [encode_decode3, take_getD (lengthOf_bounds b0).2 enough, hlen, List.take_succ_cons, List.take_left, henc]
    · rw [hlen]
      exact List.drop_left
  · cases hi

theorem encodedAs_of_wellFormed {i : Instr} {bytes : List Byte} (hi : i.wellFormed = true) (h : encode i = bytes) :
    EncodedAs i bytes :=
  ⟨h, fun rest => h ▸ decodeOfEncodeIsTheInstruction i rest hi⟩

/-- Settles O3: the decoder computes each word. -/
theorem wordsOfTheSpecDecode : Obligations.WordsOfTheSpecDecode := by
  and_intros <;> rfl

/-- The two lists of R118 over bytes. -/
theorem lengthOf_eq (b0 : Byte) : lengthOf b0 =
    (if b0 ∈ [0x01#8, 0x11#8, 0x21#8, 0x31#8, 0x08#8, 0xC2#8, 0xCA#8, 0xD2#8, 0xDA#8, 0xC3#8, 0xC4#8,
        0xCC#8, 0xD4#8, 0xDC#8, 0xCD#8, 0xEA#8, 0xFA#8] then 3
     else if b0 ∈ [0x06#8, 0x0E#8, 0x16#8, 0x1E#8, 0x26#8, 0x2E#8, 0x36#8, 0x3E#8, 0x10#8, 0x18#8,
        0x20#8, 0x28#8, 0x30#8, 0x38#8, 0xC6#8, 0xCE#8, 0xD6#8, 0xDE#8, 0xE6#8, 0xEE#8, 0xF6#8, 0xFE#8,
        0xE0#8, 0xF0#8, 0xE8#8, 0xF8#8, 0xCB#8] then 2
     else 1) := by
  revert b0
  decide

/-- The rows of R119 are encoded by their opcode alone. -/
theorem encode_of_mem_undefinedInstrs : ∀ i ∈ undefinedInstrs, ∃ op ∈ undefinedOpcodes, encode i = [op] := by
  decide

theorem decode3_mem_undefinedInstrs_iff (b0 b1 b2 : Byte) :
    decode3 b0 b1 b2 ∈ undefinedInstrs ↔ b0 ∈ undefinedOpcodes := by
  constructor
  · intro h
    obtain ⟨op, hop, henc⟩ := encode_of_mem_undefinedInstrs _ h
    exact decode3_eq_of_encode rfl henc ▸ hop
  · intro h
    have hcb : b0 ≠ 0xCB#8 := by
      rintro rfl
      exact absurd h (by decide)
    rw [decode3, if_neg hcb]
    exact page0_mem_undefinedInstrs h b1 b2

/-- Settles O4: the decoder takes `lengthOf b0` bytes, and `decode3_mem_undefinedInstrs_iff`. -/
theorem byteZeroTellsLengthAndUndefined : Obligations.ByteZeroTellsLengthAndUndefined := by
  intro b0 b1 b2 rest
  have hlen := length_encode_decode3 b0 b1 b2
  obtain ⟨hone, hthree⟩ := lengthOf_bounds b0
  refine ⟨decode3 b0 b1 b2, ?_, hlen.trans (lengthOf_eq b0), decode3_mem_undefinedInstrs_iff b0 b1 b2⟩
  obtain ⟨n, hn⟩ := Nat.exists_eq_add_of_le' hone
  rw [decode_cons (by simp; omega), hlen, hn]
  rfl

end Sys2Proof

namespace Sys2Proof.Machine

/-- Settles O5: both rows run `State.cbPage`, and both encodings have the same second byte. -/
theorem prefixRunsTheCbPage : Obligations.PrefixRunsTheCbPage := by
  refine ⟨fun op2 s => ⟨cbInstr op2, ?_, ⟨_, rfl⟩, (exec_cbInstr op2 s).symm, ?_⟩, fun r o => ?_, fun n o => ⟨?_, ?_, ?_⟩⟩
  · exact encodedAs_of_wellFormed (cbInstr_wellFormed op2) (encode_cbInstr op2)
  · rw [mCycles_of_encode_prefix rfl, mCycles_of_encode_prefix (encode_cbInstr op2)]
  · exact (rotInstr_encoding_and_costs r o).1
  · exact (bitInstr_encoding_and_costs n o).1
  · exact (resInstr_encoding_and_costs n o).1
  · exact (setInstr_encoding_and_costs n o).1

end Sys2Proof.Machine
end

section
/-! PROOF. The accumulator operations, `ADD HL,rr`, `HALT`, and BCD arithmetic (spec/40_block0.md R130, R136, R137,
R154 to R161, spec/41_block1.md R173, spec/42_block2.md R200). -/

namespace Sys2Proof.Machine

/-- A row of the accumulator-operation table: its opcode, and one M-cycle (R111, R415). -/
theorem accInstr_encoding_and_costs (y : Idx) :
    EncodedAs (accInstr (accOf y)) [BitVec.ofNat 8 (0x07 + 8 * y.val)] ∧ Costs (accInstr (accOf y)) 1 := by
  cases y with
  | i0 | i1 | i2 | i3 | i4 | i5 | i6 | i7 =>
    exact ⟨encodedAs_one rfl rfl fun _ _ => rfl, costs_of_encode rfl (by decide) rfl rfl⟩

/-- Settles O6: each row is its operation by definition. -/
theorem nopAndAccumulatorResults : Obligations.NopAndAccumulatorResults := by
  obtain ⟨rlca, rlcaCosts⟩ := accInstr_encoding_and_costs .i0
  obtain ⟨rrca, rrcaCosts⟩ := accInstr_encoding_and_costs .i1
  obtain ⟨rla, rlaCosts⟩ := accInstr_encoding_and_costs .i2
  obtain ⟨rra, rraCosts⟩ := accInstr_encoding_and_costs .i3
  obtain ⟨cpl, cplCosts⟩ := accInstr_encoding_and_costs .i5
  obtain ⟨scf, scfCosts⟩ := accInstr_encoding_and_costs .i6
  refine ⟨⟨encodedAs_one rfl rfl fun _ _ => rfl, costs_of_encode rfl (by decide) rfl rfl, rlca, rlcaCosts, rrca,
    rrcaCosts, rla, rlaCosts, rra, rraCosts, cpl, cplCosts, scf, scfCosts, accInstr_encoding_and_costs .i7⟩,
    fun s => ⟨rfl, rfl, rfl, rfl, rfl, ?_, rfl, rfl⟩⟩
  -- the complement is the exclusive or with all ones
  exact congrArg (fun a => Host.Outcome.next (State.setFlags { s with a := a } s.fZ true true s.fC))
    (BitVec.xor_allOnes (x := s.a)).symm

theorem addHlInstr_encoding_and_costs (p : Rp) :
    EncodedAs (addHlInstr p) [BitVec.ofNat 8 (0x09 + 16 * p.code)] ∧ Costs (addHlInstr p) 2 := by
  cases p with
  | bc | de | hl | sp => exact ⟨encodedAs_one rfl rfl fun _ _ => rfl, costs_of_encode rfl (by decide) rfl rfl⟩

/-- Settles O9: the sum of `add16` goes to HL, its two carries to F. -/
theorem addHlResults : Obligations.AddHlResults := by
  intro p s
  obtain ⟨encoding, costs⟩ := addHlInstr_encoding_and_costs p
  exact ⟨encoding, costs, _, exec_addHlInstr p s, (toNat_hl_setHL s _).trans (BitVec.toNat_ofNat _ _), rfl⟩

/-- Settles O18: `State.halt` by definition. -/
theorem haltResult : Obligations.HaltResult :=
  ⟨encodedAs_one rfl rfl fun _ _ => rfl, costs_of_encode rfl (by decide) rfl rfl, fun s => rfl⟩

/-- The flags of an ALU operation are those of its function, CP included (R200). -/
theorem alu_f (s : State) (op : AluOp) (v : Byte) :
    (s.alu op v).f = packFlags (aluFn op s.a v s.fC).z (aluFn op s.a v s.fC).n (aluFn op s.a v s.fC).h
      (aluFn op s.a v s.fC).c := by
  cases op with
  | add | adc | sub | sbc | and | xor | or | cp => rfl

/-- A difference without a borrow is the difference of bytes (R182). -/
theorem sub8_res (a b : Byte) : (sub8 a b false).res = a - b := by
  apply BitVec.eq_of_toNat_eq
  have ha := a.isLt
  have hb := b.isLt
  rw [toNat_sub8_res, BitVec.toNat_sub, Bool.toNat_false]
  omega

theorem aluFn_z (op : AluOp) (a b : Byte) (fc : Bool) :
    (aluFn op a b fc).z = decide ((aluFn op a b fc).res = 0#8) := by
  cases op with
  | add | adc | sub | sbc | and | xor | or | cp => rfl

theorem aluFn_n_iff (op : AluOp) (a b : Byte) (fc : Bool) :
    (aluFn op a b fc).n = true ↔ op = .sub ∨ op = .sbc ∨ op = .cp := by
  cases op with
  | add | adc | and | xor | or => exact ⟨nofun, nofun⟩
  | sub | sbc | cp => simp [aluFn, sub8]

/-- The byte R200 speaks of: what CP discards, what the other operations leave in A. -/
theorem alu_result (s : State) (op : AluOp) (v : Byte) :
    (if op = .cp then s.a - v else (s.alu op v).a) = (aluFn op s.a v s.fC).res := by
  cases op with
  | cp => exact (sub8_res s.a v).symm
  | add | adc | sub | sbc | and | xor | or => rfl

/-- Settles O22: `aluFn` sets both flags so, and `State.alu` packs them into F. -/
theorem zeroAndSubtractFlagLaw : Obligations.ZeroAndSubtractFlagLaw := by
  intro op s t i v form hexec
  obtain rfl : s.alu op v = t := Host.Outcome.next.inj ((exec_of_aluForm op form.symm).symm.trans hexec)
  rw [alu_result, State.fZ, State.fN, alu_f, packFlags_bit7, packFlags_bit6, aluFn_z]
  exact ⟨decide_eq_true_iff, aluFn_n_iff op s.a v s.fC⟩

/-- Two decimal digits in BCD. -/
def bcd (n : Nat) : Byte := BitVec.ofNat 8 (16 * (n % 100 / 10) + n % 10)

theorem toNat_bcd (n : Nat) : (bcd n).toNat = 16 * (n % 100 / 10) + n % 10 := by
  rw [bcd, BitVec.toNat_ofNat]
  omega

theorem toNat_bcd_of_lt {n : Nat} (hn : n < 100) : (bcd n).toNat = 16 * (n / 10) + n % 10 := by
  rw [toNat_bcd, Nat.mod_eq_of_lt hn]

/-- `DAA` after an addition of BCD numbers. -/
theorem daaResult_add {x y : Nat} (hx : x < 100) (hy : y < 100) :
    let r := add8 (bcd x) (bcd y) false
    (daaResult r.res r.n r.h r.c).res = bcd (x + y) ∧ (daaResult r.res r.n r.h r.c).c = decide (100 ≤ x + y) := by
  intro r
  have hres : r.res.toNat = ((bcd x).toNat + (bcd y).toNat) % 256 := BitVec.toNat_ofNat _ _
  have hh : r.h = true ↔ 15 < (bcd x).toNat % 16 + (bcd y).toNat % 16 := decide_eq_true_iff
  have hc : r.c = true ↔ 255 < (bcd x).toNat + (bcd y).toNat := decide_eq_true_iff
  rw [toNat_bcd_of_lt hx, toNat_bcd_of_lt hy] at hres hh hc
  have low : daaLow r.res false r.h = true ↔ 10 ≤ x % 10 + y % 10 := by
    rw [daaLow_iff, hh, hres]
    simp only [true_and]
    omega
  have high : daaHigh r.res false r.c = true ↔ 100 ≤ x + y := by
    rw [daaHigh_iff, hc, hres]
    simp only [true_and]
    clear hres
    rcases Nat.lt_or_ge (16 * (x / 10) + x % 10 + (16 * (y / 10) + y % 10)) 256 with h | h
    · rw [Nat.mod_eq_of_lt h]
      omega
    · omega
  constructor
  · apply BitVec.eq_of_toNat_eq
    refine (toNat_daaResult_res r.res false r.h r.c).trans ?_
    rw [if_neg Bool.false_ne_true, toNat_daaAdjust, hres]
    simp only [low, high, toNat_bcd]
    split <;> split <;> omega
  · exact Bool.eq_iff_iff.2 (high.trans decide_eq_true_iff.symm)

/-- `DAA` after a subtraction of BCD numbers. -/
theorem daaResult_sub {x y : Nat} (hx : x < 100) (hy : y < 100) :
    let r := sub8 (bcd x) (bcd y) false
    (daaResult r.res r.n r.h r.c).res = bcd (x + 100 - y) ∧ (daaResult r.res r.n r.h r.c).c = decide (x < y) := by
  intro r
  have hres : r.res.toNat = ((bcd x).toNat + 512 - (bcd y).toNat - 0) % 256 := toNat_sub8_res _ _ _
  have hh : r.h = true ↔ (bcd x).toNat % 16 < (bcd y).toNat % 16 + 0 := decide_eq_true_iff
  have hc : r.c = true ↔ (bcd x).toNat < (bcd y).toNat + 0 := decide_eq_true_iff
  rw [toNat_bcd_of_lt hx, toNat_bcd_of_lt hy] at hres hh hc
  have low : daaLow r.res true r.h = true ↔ x % 10 < y % 10 := by
    rw [daaLow_iff, hh]
    simp only [Bool.true_eq_false, false_and, or_false]
    omega
  have high : daaHigh r.res true r.c = true ↔ x < y := by
    rw [daaHigh_iff, hc]
    simp only [Bool.true_eq_false, false_and, or_false]
    omega
  constructor
  · apply BitVec.eq_of_toNat_eq
    refine (toNat_daaResult_res r.res true r.h r.c).trans ?_
    rw [if_pos rfl, toNat_daaAdjust, hres]
    simp only [low, high, toNat_bcd]
    split <;> split <;> omega
  · exact Bool.eq_iff_iff.2 (high.trans decide_eq_true_iff.symm)

/-- `DAA` works on A and the flags (R158). -/
theorem exec_daa_putResult (s : State) (r : AluResult) : exec .daa (s.putResult .a r) =
    .next ((s.putResult .a r).putResult .a (daaResult r.res r.n r.h r.c)) := by
  have hf : (s.putResult .a r).fN = r.n ∧ (s.putResult .a r).fH = r.h ∧ (s.putResult .a r).fC = r.c :=
    ⟨setFlags_fN _ _ _ _ _, setFlags_fH _ _ _ _ _, setFlags_fC _ _ _ _ _⟩
  obtain ⟨hn, hh, hc⟩ := hf
  rw [← hn, ← hh, ← hc]
  rfl

/-- Settles O12: `daaResult_add` and `daaResult_sub` on the flags that ADD and SUB leave. -/
theorem daaCorrectsBcdArithmetic : Obligations.DaaCorrectsBcdArithmetic := by
  intro x y s hx hy ha
  have hbcd : ∀ {n}, n < 100 → BitVec.ofNat 8 (16 * (n / 10) + n % 10) = bcd n := fun hn => by
    rw [bcd, Nat.mod_eq_of_lt hn]
  rw [hbcd hx] at ha
  rw [hbcd hy]
  obtain ⟨sum, sumCarry⟩ := daaResult_add hx hy
  obtain ⟨difference, borrow⟩ := daaResult_sub hx hy
  rw [← ha] at sum sumCarry difference borrow
  exact ⟨⟨_, _, rfl, exec_daa_putResult s _, sum, (setFlags_fC _ _ _ _ _).trans sumCarry⟩,
    ⟨_, _, rfl, exec_daa_putResult s _, difference, (setFlags_fC _ _ _ _ _).trans borrow⟩⟩

end Sys2Proof.Machine
end

section
/-! PROOF. The stack, calls and returns, and the control instructions (spec/40_block0.md R131, R132,
spec/43_block3.md R211, R216 to R219, R229 to R234, R243, R250). -/

namespace Sys2Proof.Machine

/-- The address after `a`, modulo 65536. -/
theorem add_one_eq_ofNat (a : Word) : a + 1#16 = BitVec.ofNat 16 ((a.toNat + 1) % 65536) := by
  rw [← toNat_add_one, BitVec.ofNat_toNat, BitVec.setWidth_eq]

/-- Settles O15: `State.memWrite16` is two bus writes. -/
theorem storeStackPointerResult : Obligations.StoreStackPointerResult := by
  intro nn s
  refine ⟨encodedAs_word nn rfl rfl fun _ _ => rfl, costs_of_encode rfl (by decide) rfl rfl, _, _, rfl,
    storeFrame_busWrite s _ _, ?_⟩
  rw [← add_one_eq_ofNat]
  exact storeFrame_busWrite _ _ _

theorem pushInstr_encoding_and_costs (p : Rp2) :
    EncodedAs (pushInstr p) [BitVec.ofNat 8 (0xC5 + 16 * p.code)] ∧ Costs (pushInstr p) 4 := by
  cases p with
  | bc | de | hl | af => exact ⟨encodedAs_one rfl rfl fun _ _ => rfl, costs_of_encode rfl (by decide) rfl rfl⟩

theorem popInstr_encoding_and_costs (p : Rp2) :
    EncodedAs (popInstr p) [BitVec.ofNat 8 (0xC1 + 16 * p.code)] ∧ Costs (popInstr p) 3 := by
  cases p with
  | bc | de | hl | af => exact ⟨encodedAs_one rfl rfl fun _ _ => rfl, costs_of_encode rfl (by decide) rfl rfl⟩

theorem hiByte_stackTop (s : State) : hiByte s.stackTop = s.busRead (s.sp + 1#16) := hiByte_wordOf _ _

theorem loByte_stackTop (s : State) : loByte s.stackTop = s.busRead s.sp := loByte_wordOf _ _

/-- `POP` of a pair other than AF writes the two stack bytes to its registers. -/
theorem exec_pop_eq (s : State) :
    exec .pop_BC s = .next { s with b := s.busRead (s.sp + 1#16), c := s.busRead s.sp, sp := s.sp + 2#16 } ∧
    exec .pop_DE s = .next { s with d := s.busRead (s.sp + 1#16), e := s.busRead s.sp, sp := s.sp + 2#16 } ∧
    exec .pop_HL s = .next { s with h := s.busRead (s.sp + 1#16), l := s.busRead s.sp, sp := s.sp + 2#16 } ∧
    exec .pop_AF s = .next { s with
      a := s.busRead (s.sp + 1#16), f := s.busRead s.sp &&& 0xF0#8, sp := s.sp + 2#16 } := by
  rw [← hiByte_stackTop, ← loByte_stackTop]
  exact ⟨rfl, rfl, rfl, rfl⟩

/-- Settles O24: a push is `State.push16` of the pair, a pop the write of the two stack bytes. -/
theorem pushAndPopResults : Obligations.PushAndPopResults := by
  refine ⟨fun p => ?_, fun s => ⟨?_, ?_, ?_, ?_, exec_pop_eq s⟩⟩
  · obtain ⟨encoding, costs⟩ := pushInstr_encoding_and_costs p
    exact ⟨encoding, costs, popInstr_encoding_and_costs p⟩
  · exact ⟨_, rfl, pushed_push16 s s.bc⟩
  · exact ⟨_, rfl, pushed_push16 s s.de⟩
  · exact ⟨_, rfl, pushed_push16 s s.hl⟩
  · exact ⟨_, rfl, pushed_push16 s s.af⟩

theorem retCcInstr_encoding_and_costs (cc : Cond) :
    EncodedAs (retCcInstr cc) [BitVec.ofNat 8 (0xC0 + 8 * cc.code)] ∧ CostsOn (retCcInstr cc) cc 5 2 := by
  cases cc with
  | nz | z | nc | c => exact ⟨encodedAs_one rfl rfl fun _ _ => rfl, costsOn_of_encode rfl (by decide) rfl rfl rfl⟩

/-- Settles O25: both are `State.returnPc`. -/
theorem returnResults : Obligations.ReturnResults := by
  refine ⟨encodedAs_one rfl rfl fun _ _ => rfl, costs_of_encode rfl (by decide) rfl rfl, fun s => rfl, fun cc s => ?_⟩
  obtain ⟨encoding, costs⟩ := retCcInstr_encoding_and_costs cc
  exact ⟨encoding, costs, exec_retCcInstr cc s⟩

/-- Settles O26: `State.returnFromInterrupt` by definition. -/
theorem returnFromInterruptResult : Obligations.ReturnFromInterruptResult :=
  ⟨encodedAs_one rfl rfl fun _ _ => rfl, costs_of_encode rfl (by decide) rfl rfl, fun _ => rfl⟩

theorem callCcInstr_encoding_and_costs (cc : Cond) (nn : Word) :
    EncodedAs (callCcInstr cc nn) [BitVec.ofNat 8 (0xC4 + 8 * cc.code), nn.extractLsb' 0 8, nn.extractLsb' 8 8] ∧
      CostsOn (callCcInstr cc nn) cc 6 3 := by
  cases cc with
  | nz | z | nc | c =>
    exact ⟨encodedAs_word nn rfl rfl fun _ _ => rfl, costsOn_of_encode rfl (by decide) rfl rfl rfl⟩

theorem rstInstr_encoding_and_costs (y : Idx) :
    EncodedAs (rstInstr y) [BitVec.ofNat 8 (0xC7 + 8 * y.val)] ∧ Costs (rstInstr y) 4 := by
  cases y with
  | i0 | i1 | i2 | i3 | i4 | i5 | i6 | i7 =>
    exact ⟨encodedAs_one rfl rfl fun _ _ => rfl, costs_of_encode rfl (by decide) rfl rfl⟩

/-- Settles O28: each pushes PC with `State.push16` and jumps. -/
theorem callAndRestartResults : Obligations.CallAndRestartResults := by
  refine ⟨fun nn s => ⟨encodedAs_word nn rfl rfl fun _ _ => rfl, costs_of_encode rfl (by decide) rfl rfl, _,
    pushed_push16 s s.pc, rfl⟩, fun cc nn s => ?_, fun y s => ?_⟩
  · obtain ⟨encoding, costs⟩ := callCcInstr_encoding_and_costs cc nn
    exact ⟨encoding, costs, _, pushed_push16 s s.pc, exec_callCcInstr cc nn s⟩
  · obtain ⟨encoding, costs⟩ := rstInstr_encoding_and_costs y
    exact ⟨encoding, costs, _, pushed_push16 s s.pc, exec_rstInstr y s⟩

/-- Settles O29: both rows by definition. -/
theorem interruptEnableResults : Obligations.InterruptEnableResults :=
  ⟨encodedAs_one rfl rfl fun _ _ => rfl, costs_of_encode rfl (by decide) rfl rfl,
    encodedAs_one rfl rfl fun _ _ => rfl, costs_of_encode rfl (by decide) rfl rfl, fun _ => ⟨rfl, rfl⟩⟩

/-- An undefined row locks the CPU with its own opcode (R243, R331). -/
theorem exec_decode3_undefined {op : Byte} (hop : op ∈ undefinedOpcodes) {b1 b2 : Byte} (s : State) :
    exec (decode3 op b1 b2) s = .next (s.lock op) := by
  simp only [undefinedOpcodes, List.mem_cons, List.not_mem_nil, or_false] at hop
  obtain rfl | rfl | rfl | rfl | rfl | rfl | rfl | rfl | rfl | rfl | rfl := hop <;> rfl

/-- Settles O30: `STOP` by definition; an undefined row is what its one opcode byte decodes to. -/
theorem stopAndUndefinedResults : Obligations.StopAndUndefinedResults := by
  refine ⟨fun pad s => ⟨encodedAs_two rfl rfl fun _ => rfl, costs_of_encode rfl (by decide) rfl rfl, rfl⟩,
    fun i s hi => ?_⟩
  obtain ⟨op, hop, henc⟩ := encode_of_mem_undefinedInstrs i hi
  have hwf : ∀ j ∈ undefinedInstrs, j.wellFormed = true := by decide
  refine ⟨op, hop, encodedAs_of_wellFormed (hwf i hi) henc, ?_⟩
  obtain ⟨b0, rest, henc', hdec⟩ | ⟨op2, rfl⟩ := readsBack_or_prefix i
  · obtain ⟨rfl, -⟩ := List.cons.inj (henc.symm.trans henc')
    rw [← hdec]
    exact exec_decode3_undefined hop s
  · exact absurd (hwf _ hi) Bool.false_ne_true

end Sys2Proof.Machine
end

section
/-! PROOF. What an instruction can do to the state, said once for all rows (spec/10_state.md R25 to R33,
spec/42_block2.md R201), and what follows for the control state, the flags and the invariant. -/

namespace Sys2Proof

/-- The rows of the flag summary by the two opcode bytes (R201). -/
def opcodeWritesFlags (b0 b1 : Byte) : Bool :=
  decide ((0x80#8 ≤ b0 ∧ b0 < 0xC0#8) ∨ (b0 = 0xCB#8 ∧ b1 < 0x80#8) ∨
    b0 ∈ [0xC6#8, 0xCE#8, 0xD6#8, 0xDE#8, 0xE6#8, 0xEE#8, 0xF6#8, 0xFE#8,
      0x04#8, 0x0C#8, 0x14#8, 0x1C#8, 0x24#8, 0x2C#8, 0x34#8, 0x3C#8,
      0x05#8, 0x0D#8, 0x15#8, 0x1D#8, 0x25#8, 0x2D#8, 0x35#8, 0x3D#8,
      0x09#8, 0x19#8, 0x29#8, 0x39#8, 0xE8#8, 0xF8#8,
      0x07#8, 0x0F#8, 0x17#8, 0x1F#8, 0x27#8, 0x2F#8, 0x37#8, 0x3F#8, 0xF1#8])

/-- An instruction of the flag summary. -/
def Instr.writesFlags (i : Instr) : Bool :=
  match encode i with
  | [] => false
  | b0 :: rest => opcodeWritesFlags b0 (rest.getD 0 0#8)

/-- The byte-0 values of the instructions that may change SP (R27). -/
def stackOpcodes : List Byte :=
  [0x31#8, 0x33#8, 0x3B#8, 0xE8#8, 0xF9#8,
   0xC1#8, 0xD1#8, 0xE1#8, 0xF1#8, 0xC5#8, 0xD5#8, 0xE5#8, 0xF5#8,
   0xC0#8, 0xC8#8, 0xD0#8, 0xD8#8, 0xC9#8, 0xD9#8,
   0xC4#8, 0xCC#8, 0xD4#8, 0xDC#8, 0xCD#8,
   0xC7#8, 0xCF#8, 0xD7#8, 0xDF#8, 0xE7#8, 0xEF#8, 0xF7#8, 0xFF#8]

/-- An instruction whose byte 0 is one of them. -/
def Instr.MovesSp (i : Instr) : Prop := ∃ b ∈ (encode i).head?, b ∈ stackOpcodes

/-- Byte 1 counts after 0xCB only, so the encoding tells the class of the bytes it was read from. -/
theorem writesFlags_decode3 (b0 b1 b2 : Byte) :
    (decode3 b0 b1 b2).writesFlags = opcodeWritesFlags b0 b1 := by
  by_cases hcb : b0 = 0xCB#8
  · rw [hcb, decode3, if_pos rfl, Instr.writesFlags, encode_cbInstr]
    rfl
  · obtain ⟨rest, henc⟩ : ∃ rest, encode (decode3 b0 b1 b2) = b0 :: rest :=
      List.head?_eq_some_iff.1 (head?_encode_decode3 b0 b1 b2)
    rw [Instr.writesFlags, henc]
    simp only [opcodeWritesFlags, hcb, false_and]

/-- In the CB page the rotates, the shifts and BIT write flags (R201). -/
theorem opcodeWritesFlags_prefix (op2 : Byte) : opcodeWritesFlags 0xCB#8 op2 = decide (fieldX op2 < 2) := by
  revert op2
  decide

end Sys2Proof

namespace Sys2Proof.Machine

/-- The states an instruction `i` can leave from `s`, by kind of effect, and which instructions have each. -/
inductive Effect (i : Instr) (s : State) : State → Prop
  /-- Loads, RES, SET. -/
  | operand (o : Opnd) (v : Byte) (hf : i.writesFlags = false) : Effect i s (s.setOp8 o v)
  /-- 8-bit arithmetic, rotates, shifts. -/
  | result (o : Opnd) (r : AluResult) (hf : i.writesFlags = true) : Effect i s (s.putResult o r)
  /-- CP, BIT, SCF, CCF. -/
  | flags (z n h c : Bool) (hf : i.writesFlags = true) : Effect i s (s.setFlags z n h c)
  /-- 16-bit loads, increments and decrements. -/
  | pair (p : Rp) (v : Word) (hf : i.writesFlags = false) (hsp : p = .sp → i.MovesSp) : Effect i s (s.setRp p v)
  /-- 16-bit sums. -/
  | pairResult (p : Rp) (v : Word) (z n h c : Bool) (hf : i.writesFlags = true) (hsp : p = .sp → i.MovesSp) :
      Effect i s ((s.setRp p v).setFlags z n h c)
  /-- `LD A,(HL+)` and `LD A,(HL-)`. -/
  | loadMoveHL (v : Byte) (w : Word) (hf : i.writesFlags = false) : Effect i s (State.setHL { s with a := v } w)
  /-- Stores of A. -/
  | store (x : Word) (v : Byte) (hf : i.writesFlags = false) : Effect i s (s.busWrite x v)
  /-- `LD (HL+),A` and `LD (HL-),A`. -/
  | storeMoveHL (x : Word) (v : Byte) (w : Word) (hf : i.writesFlags = false) : Effect i s ((s.busWrite x v).setHL w)
  /-- `LD (nn),SP`. -/
  | store16 (x v : Word) (hf : i.writesFlags = false) : Effect i s (s.memWrite16 x v)
  /-- Jumps, and whatever changes nothing. -/
  | jump (w : Word) (hf : i.writesFlags = false) : Effect i s { s with pc := w }
  /-- PUSH, calls, restarts. -/
  | push (v w : Word) (hf : i.writesFlags = false) (hsp : i.MovesSp) : Effect i s { s.push16 v with pc := w }
  /-- POP. -/
  | pop (p : Rp2) (hf : i.writesFlags = decide (p = .af)) (hsp : i.MovesSp) : Effect i s (s.pop p)
  /-- RET. -/
  | ret (hf : i.writesFlags = false) (hsp : i.MovesSp) : Effect i s s.returnPc
  | reti (hi : i = .reti) : Effect i s s.returnFromInterrupt
  | di (hi : i = .di) : Effect i s { s with ime := false, imePending := false }
  | ei (hi : i = .ei) : Effect i s { s with imePending := true }
  | halt (hi : i = .halt) : Effect i s s.halt
  | stop (pad : Byte) (hi : i = .stop pad) : Effect i s { s with cpuMode := .stopped }
  | lock (opcode : Byte) (hf : i.writesFlags = false) (hi : i ∈ undefinedInstrs) : Effect i s (s.lock opcode)

/-- The instruction has one of the effects. -/
def Acts (i : Instr) (s : State) : Prop := ∃ t, exec i s = .next t ∧ Effect i s t

theorem Effect.unchanged {i : Instr} (s : State) (hf : i.writesFlags = false) : Effect i s s := .jump s.pc hf

/-- A conditional instruction either does its operation or changes nothing. -/
theorem acts_of_cond {i : Instr} {s t : State} {taken : Bool} (hf : i.writesFlags = false)
    (hexec : exec i s = .next (if taken = true then t else s)) (ht : Effect i s t) : Acts i s :=
  ⟨_, hexec, ite_holds (P := Effect i s) (fun _ => ht) fun _ => .unchanged s hf⟩

theorem aluInstr_writesFlags (op : AluOp) (o : Opnd) : (aluInstr op o).writesFlags = true := by
  cases op with
  | add | adc | sub | sbc | and | xor | or | cp =>
    cases o with
    | b | c | d | e | h | l | indHL | a => rfl

theorem ldInstr_writesFlags (dst src : Opnd) : (ldInstr dst src).writesFlags = false := by
  cases dst with
  | b | c | d | e | h | l | indHL | a =>
    cases src with
    | b | c | d | e | h | l | indHL | a => rfl

theorem alu_effect {i : Instr} (s : State) (op : AluOp) (v : Byte) (hf : i.writesFlags = true) :
    Effect i s (s.alu op v) := by
  cases op with
  | cp => exact .flags _ _ _ _ hf
  | add | adc | sub | sbc | and | xor | or => exact .result .a _ hf

/-- The load matrix with its `HALT` entry (R170). -/
theorem ldInstr_acts (dst src : Opnd) (s : State) : Acts (ldInstr dst src) s := by
  by_cases h : dst = .indHL ∧ src = .indHL
  · obtain ⟨rfl, rfl⟩ := h
    exact ⟨_, rfl, .halt rfl⟩
  · exact ⟨_, exec_ldInstr h s, .operand dst _ (ldInstr_writesFlags dst src)⟩

theorem accInstr_acts (op : AccOp) (s : State) : Acts (accInstr op) s := by
  cases op with
  | rlca | rrca | rla | rra | daa => exact ⟨_, rfl, .result .a _ rfl⟩
  | cpl => exact ⟨s.putResult .a ⟨~~~s.a, s.fZ, true, true, s.fC⟩, rfl, .result .a _ rfl⟩
  | scf | ccf => exact ⟨_, rfl, .flags _ _ _ _ rfl⟩

theorem cbPage_effect {i : Instr} (s : State) {op2 : Byte} (hf : i.writesFlags = opcodeWritesFlags 0xCB#8 op2) :
    Effect i s (s.cbPage op2) := by
  rw [opcodeWritesFlags_prefix] at hf
  unfold State.cbPage
  generalize fieldX op2 = x at hf
  match x with
  | 0 => exact .result _ _ hf
  | 1 => exact .flags _ _ _ _ hf
  | 2 | _ + 3 => exact .operand _ _ (hf.trans (decide_eq_false (by omega)))

/-- The byte 0 of a row of the stack, as one of the list of R27. -/
theorem movesSp_of_encode {i : Instr} {b0 : Byte} {rest : List Byte} (henc : encode i = b0 :: rest)
    (h : b0 ∈ stackOpcodes) : i.MovesSp := ⟨b0, by rw [henc]; rfl, h⟩

theorem block0_acts (y z : Idx) (b1 b2 : Byte) (s : State) : Acts (block0 y z b1 b2) s := by
  unfold block0
  cases z with
  | i0 =>
    cases y with
    | i0 => exact ⟨s, rfl, .unchanged s rfl⟩
    | i1 => exact ⟨_, rfl, .store16 _ _ rfl⟩
    | i2 => exact ⟨_, rfl, .stop b1 rfl⟩
    | i3 => exact ⟨_, rfl, .jump _ rfl⟩
    | i4 | i5 | i6 | i7 => exact acts_of_cond rfl (exec_jrCcInstr _ b1 s) (.jump _ rfl)
  | i1 =>
    cases y with
    | i0 | i2 | i4 => exact ⟨_, exec_ldRpInstr _ _ s, .pair _ _ rfl nofun⟩
    | i6 => exact ⟨_, exec_ldRpInstr _ _ s, .pair _ _ rfl fun _ => movesSp_of_encode rfl (by decide)⟩
    | i1 | i3 | i5 | i7 => exact ⟨_, exec_addHlInstr _ s, .pairResult .hl _ _ _ _ _ rfl nofun⟩
  | i2 =>
    cases y with
    | i0 | i2 => exact ⟨_, rfl, .store _ _ rfl⟩
    | i1 | i3 => exact ⟨_, rfl, .operand .a _ rfl⟩
    | i4 | i6 => exact ⟨_, rfl, .storeMoveHL _ _ _ rfl⟩
    | i5 | i7 => exact ⟨_, rfl, .loadMoveHL _ _ rfl⟩
  | i3 =>
    cases y with
    | i0 | i2 | i4 => exact ⟨_, exec_incRpInstr _ s, .pair _ _ rfl nofun⟩
    | i1 | i3 | i5 => exact ⟨_, exec_decRpInstr _ s, .pair _ _ rfl nofun⟩
    | i6 => exact ⟨_, exec_incRpInstr _ s, .pair _ _ rfl fun _ => movesSp_of_encode rfl (by decide)⟩
    | i7 => exact ⟨_, exec_decRpInstr _ s, .pair _ _ rfl fun _ => movesSp_of_encode rfl (by decide)⟩
  | i4 =>
    cases y with
    | i0 | i1 | i2 | i3 | i4 | i5 | i6 | i7 => exact ⟨_, exec_inc8Instr _ s, .result _ _ rfl⟩
  | i5 =>
    cases y with
    | i0 | i1 | i2 | i3 | i4 | i5 | i6 | i7 => exact ⟨_, exec_dec8Instr _ s, .result _ _ rfl⟩
  | i6 =>
    cases y with
    | i0 | i1 | i2 | i3 | i4 | i5 | i6 | i7 => exact ⟨_, exec_ldImmInstr _ b1 s, .operand _ _ rfl⟩
  | i7 => exact accInstr_acts _ s

theorem block3_acts (y z : Idx) (b1 b2 : Byte) (s : State) : Acts (block3 y z b1 b2) s := by
  unfold block3
  cases z with
  | i0 =>
    cases y with
    | i0 | i1 | i2 | i3 =>
      exact acts_of_cond rfl (exec_retCcInstr _ s) (.ret rfl (movesSp_of_encode rfl (by decide)))
    | i4 => exact ⟨_, rfl, .store _ _ rfl⟩
    | i5 => exact ⟨_, rfl, .pairResult .sp _ _ _ _ _ rfl fun _ => movesSp_of_encode rfl (by decide)⟩
    | i6 => exact ⟨_, rfl, .operand .a _ rfl⟩
    | i7 => exact ⟨_, rfl, .pairResult .hl _ _ _ _ _ rfl nofun⟩
  | i1 =>
    cases y with
    | i0 | i2 | i4 | i6 => exact ⟨_, exec_popInstr _ s, .pop _ rfl (movesSp_of_encode rfl (by decide))⟩
    | i1 => exact ⟨_, rfl, .ret rfl (movesSp_of_encode rfl (by decide))⟩
    | i3 => exact ⟨_, rfl, .reti rfl⟩
    | i5 => exact ⟨_, rfl, .jump _ rfl⟩
    | i7 => exact ⟨_, rfl, .pair .sp _ rfl fun _ => movesSp_of_encode rfl (by decide)⟩
  | i2 =>
    cases y with
    | i0 | i1 | i2 | i3 => exact acts_of_cond rfl (exec_jpCcInstr _ _ s) (.jump _ rfl)
    | i4 | i5 => exact ⟨_, rfl, .store _ _ rfl⟩
    | i6 | i7 => exact ⟨_, rfl, .operand .a _ rfl⟩
  | i3 =>
    cases y with
    | i0 => exact ⟨_, rfl, .jump _ rfl⟩
    | i1 => exact ⟨_, rfl, cbPage_effect s rfl⟩
    | i2 | i3 | i4 | i5 => exact ⟨_, rfl, .lock _ rfl (by simp [undefinedInstrs])⟩
    | i6 => exact ⟨_, rfl, .di rfl⟩
    | i7 => exact ⟨_, rfl, ite_holds (P := Effect .ei s) (fun _ => .ei rfl) fun _ => .unchanged s rfl⟩
  | i4 =>
    cases y with
    | i0 | i1 | i2 | i3 =>
      exact acts_of_cond rfl (exec_callCcInstr _ _ s) (.push _ _ rfl (movesSp_of_encode rfl (by decide)))
    | i4 | i5 | i6 | i7 => exact ⟨_, rfl, .lock _ rfl (by simp [undefinedInstrs])⟩
  | i5 =>
    cases y with
    | i0 | i2 | i4 | i6 =>
      exact ⟨_, exec_pushInstr _ s, .push _ (s.push16 _).pc rfl (movesSp_of_encode rfl (by decide))⟩
    | i1 => exact ⟨_, rfl, .push _ _ rfl (movesSp_of_encode rfl (by decide))⟩
    | i3 | i5 | i7 => exact ⟨_, rfl, .lock _ rfl (by simp [undefinedInstrs])⟩
  | i6 =>
    cases y with
    | i0 | i1 | i2 | i3 | i4 | i5 | i6 | i7 => exact ⟨_, exec_aluImmInstr _ b1 s, alu_effect s _ b1 rfl⟩
  | i7 =>
    cases y with
    | i0 | i1 | i2 | i3 | i4 | i5 | i6 | i7 =>
      exact ⟨_, exec_rstInstr _ s, .push _ _ rfl (movesSp_of_encode rfl (by decide))⟩

theorem page0_acts (b0 b1 b2 : Byte) (s : State) : Acts (page0 b0 b1 b2) s := by
  unfold page0
  split
  · exact block0_acts _ _ b1 b2 s
  · exact ldInstr_acts _ _ s
  · exact ⟨_, exec_aluInstr _ _ s, alu_effect s _ _ (aluInstr_writesFlags _ _)⟩
  · exact block3_acts _ _ b1 b2 s

theorem cbInstr_acts (op2 : Byte) (s : State) : Acts (cbInstr op2) s :=
  ⟨_, exec_cbInstr op2 s, cbPage_effect s (writesFlags_decode3 0xCB#8 op2 0#8)⟩

/-- What an instruction answers is one of the effects. -/
theorem effect_of_exec {i : Instr} {s t : State} (h : exec i s = .next t) : Effect i s t := by
  obtain ⟨t', ht', effect⟩ := forall_instr_of_pages (P := (Acts · s)) (fun b0 b1 b2 => page0_acts b0 b1 b2 s)
    (fun op2 => cbInstr_acts op2 s) i
  cases h.symm.trans ht'
  exact effect

end Sys2Proof.Machine
end

section
/-! PROOF. Who writes the control state and the flags, and the invariant of every step (spec/10_state.md R25 to R33,
spec/42_block2.md R201, spec/60_exceptions.md R300). -/

namespace Sys2Proof.Machine

/-- `t` has the control bits and the mode of the CPU of `s` (R29 to R33). -/
def SameControl (s t : State) : Prop :=
  t.ime = s.ime ∧ t.imePending = s.imePending ∧ t.halted = s.halted ∧ t.haltBug = s.haltBug ∧ t.cpuMode = s.cpuMode

/-- `t` has the control state, SP and F of `s`. -/
def Quiet (s t : State) : Prop := SameControl s t ∧ t.sp = s.sp ∧ t.f = s.f

theorem SameControl.trans {s t u : State} (h : SameControl s t) (h' : SameControl t u) : SameControl s u := by
  obtain ⟨h1, h2, h3, h4, h5⟩ := h
  obtain ⟨k1, k2, k3, k4, k5⟩ := h'
  exact ⟨k1.trans h1, k2.trans h2, k3.trans h3, k4.trans h4, k5.trans h5⟩

theorem SameCpu.quiet {s t : State} (h : SameCpu s t) : Quiet s t :=
  ⟨⟨(congrArg State.ime h :), (congrArg State.imePending h :), (congrArg State.halted h :),
    (congrArg State.haltBug h :), (congrArg State.cpuMode h :)⟩, (congrArg State.sp h :), (congrArg State.f h :)⟩

theorem busWrite_quiet (s : State) (x : Word) (v : Byte) : Quiet s (s.busWrite x v) := (busWrite_same s x v).quiet

theorem memWrite16_quiet (s : State) (x v : Word) : Quiet s (s.memWrite16 x v) := by
  obtain ⟨c1, sp1, f1⟩ := busWrite_quiet s x (loByte v)
  obtain ⟨c2, sp2, f2⟩ := busWrite_quiet (s.busWrite x (loByte v)) (x + 1#16) (hiByte v)
  exact ⟨c1.trans c2, sp2.trans sp1, f2.trans f1⟩

theorem setOp8_quiet (s : State) (o : Opnd) (v : Byte) : Quiet s (s.setOp8 o v) := by
  cases o with
  | indHL => exact busWrite_quiet s s.hl v
  | b | c | d | e | h | l | a => exact ⟨⟨rfl, rfl, rfl, rfl, rfl⟩, rfl, rfl⟩

theorem push16_control_and_f (s : State) (v : Word) : SameControl s (s.push16 v) ∧ (s.push16 v).f = s.f := by
  obtain ⟨c1, -, f1⟩ := busWrite_quiet { s with sp := s.sp - 1#16 } (s.sp - 1#16) (hiByte v)
  obtain ⟨c2, -, f2⟩ := busWrite_quiet { s.push8 (hiByte v) with sp := (s.push8 (hiByte v)).sp - 1#16 }
    ((s.push8 (hiByte v)).sp - 1#16) (loByte v)
  exact ⟨c1.trans c2, f2.trans f1⟩

theorem setRp_control_and_f (s : State) (p : Rp) (v : Word) :
    SameControl s (s.setRp p v) ∧ (s.setRp p v).f = s.f := by
  cases p with
  | bc | de | hl | sp => exact ⟨⟨rfl, rfl, rfl, rfl, rfl⟩, rfl⟩

theorem setRp_sp_of_ne (s : State) {p : Rp} (v : Word) (hp : p ≠ .sp) : (s.setRp p v).sp = s.sp := by
  cases p with
  | sp => exact absurd rfl hp
  | bc | de | hl => rfl

theorem pop_control (s : State) (p : Rp2) : SameControl s (s.pop p) := by
  cases p with
  | bc | de | hl | af => exact ⟨rfl, rfl, rfl, rfl, rfl⟩

/-! The control state. -/

/-- Which instructions may change each part of the control state (R29 to R33), and SP (R27). -/
def WritesControl (i : Instr) (s t : State) : Prop :=
  (t.ime ≠ s.ime → (i = .reti ∧ t.ime = true) ∨ (i = .di ∧ t.ime = false)) ∧
  (t.imePending ≠ s.imePending → (i = .ei ∧ t.imePending = true) ∨ (i = .di ∧ t.imePending = false)) ∧
  (t.halted ≠ s.halted → i = .halt ∧ t.halted = true) ∧
  (t.haltBug ≠ s.haltBug → i = .halt ∧ t.haltBug = true ∧ s.params.haltBugMode = .atHaltOnly) ∧
  (t.cpuMode ≠ s.cpuMode → i ∈ undefinedInstrs ∨ ∃ pad, i = .stop pad) ∧
  (t.sp ≠ s.sp → i.MovesSp)

theorem SameControl.writesControl {i : Instr} {s t : State} (h : SameControl s t) (hsp : t.sp ≠ s.sp → i.MovesSp) :
    WritesControl i s t := by
  obtain ⟨h1, h2, h3, h4, h5⟩ := h
  exact ⟨absurd h1, absurd h2, absurd h3, absurd h4, absurd h5, hsp⟩

theorem Quiet.writesControl (i : Instr) {s t : State} (h : Quiet s t) : WritesControl i s t :=
  h.1.writesControl (absurd h.2.1)

theorem halt_writesControl (s : State) : WritesControl .halt s s.halt := by
  unfold State.halt
  split
  · next h => exact ⟨absurd rfl, absurd rfl, absurd rfl, fun _ => ⟨rfl, rfl, h.1⟩, absurd rfl, absurd rfl⟩
  · exact ⟨absurd rfl, absurd rfl, fun _ => ⟨rfl, rfl⟩, absurd rfl, absurd rfl, absurd rfl⟩

theorem Effect.writesControl {i : Instr} {s t : State} (h : Effect i s t) : WritesControl i s t := by
  cases h with
  | operand o v hf => exact (setOp8_quiet s o v).writesControl i
  | result o r hf =>
    obtain ⟨control, sp, -⟩ := setOp8_quiet s o r.res
    exact SameControl.writesControl control (absurd sp)
  | flags z n h c hf => exact SameControl.writesControl ⟨rfl, rfl, rfl, rfl, rfl⟩ (absurd rfl)
  | pair p v hf hsp =>
    exact (setRp_control_and_f s p v).1.writesControl fun h => hsp (by_contra fun hp => h (setRp_sp_of_ne s v hp))
  | pairResult p v z n h c hf hsp =>
    exact SameControl.writesControl (setRp_control_and_f s p v).1
      fun h => hsp (by_contra fun hp => h (setRp_sp_of_ne s v hp))
  | loadMoveHL v w hf => exact SameControl.writesControl ⟨rfl, rfl, rfl, rfl, rfl⟩ (absurd rfl)
  | store x v hf => exact (busWrite_quiet s x v).writesControl i
  | storeMoveHL x v w hf => exact Quiet.writesControl i (busWrite_quiet s x v)
  | store16 x v hf => exact (memWrite16_quiet s x v).writesControl i
  | jump w hf => exact SameControl.writesControl ⟨rfl, rfl, rfl, rfl, rfl⟩ (absurd rfl)
  | push v w hf hsp => exact SameControl.writesControl (push16_control_and_f s v).1 fun _ => hsp
  | pop p hf hsp => exact (pop_control s p).writesControl fun _ => hsp
  | ret hf hsp => exact SameControl.writesControl ⟨rfl, rfl, rfl, rfl, rfl⟩ fun _ => hsp
  | reti hi =>
    exact ⟨fun _ => .inl ⟨hi, rfl⟩, absurd rfl, absurd rfl, absurd rfl, absurd rfl,
      fun _ => hi ▸ movesSp_of_encode rfl (by decide)⟩
  | di hi =>
    exact ⟨fun _ => .inr ⟨hi, rfl⟩, fun _ => .inr ⟨hi, rfl⟩, absurd rfl, absurd rfl, absurd rfl, absurd rfl⟩
  | ei hi => exact ⟨absurd rfl, fun _ => .inl ⟨hi, rfl⟩, absurd rfl, absurd rfl, absurd rfl, absurd rfl⟩
  | halt hi => exact hi ▸ halt_writesControl s
  | stop pad hi => exact ⟨absurd rfl, absurd rfl, absurd rfl, absurd rfl, fun _ => .inr ⟨pad, hi⟩, absurd rfl⟩
  | lock opcode hf hi => exact ⟨absurd rfl, absurd rfl, absurd rfl, absurd rfl, fun _ => .inl hi, absurd rfl⟩

/-- Settles O36: each effect changes the control state only for the instructions it is an effect of. -/
theorem onlyTheseWriteControlState : Obligations.OnlyTheseWriteControlState :=
  fun _ _ _ h => (effect_of_exec h).writesControl

/-! The flags. -/

/-- An instruction of the flag summary leaves a zero low nibble, any other leaves F (R25, R201). -/
theorem Effect.writesFlags {i : Instr} {s t : State} (h : Effect i s t) :
    if i.writesFlags = true then t.f.extractLsb' 0 4 = 0#4 else t.f = s.f := by
  -- the two kinds of effect
  have packed : ∀ {u : State} {z n h c : Bool}, i.writesFlags = true →
      if i.writesFlags = true then (u.setFlags z n h c).f.extractLsb' 0 4 = 0#4
      else (u.setFlags z n h c).f = s.f := fun hf => by
    rw [if_pos hf]
    exact packFlags_low _ _ _ _
  have kept : ∀ {u : State}, u.f = s.f → i.writesFlags = false →
      if i.writesFlags = true then u.f.extractLsb' 0 4 = 0#4 else u.f = s.f := fun hu hf => by
    rwa [if_neg (Bool.not_eq_true _ ▸ hf)]
  cases h with
  | operand o v hf => exact kept (setOp8_f s o v) hf
  | result o r hf => exact packed hf
  | flags z n h c hf => exact packed hf
  | pair p v hf hsp => exact kept (setRp_control_and_f s p v).2 hf
  | pairResult p v z n h c hf hsp => exact packed hf
  | loadMoveHL v w hf => exact kept rfl hf
  | store x v hf => exact kept (busWrite_quiet s x v).2.2 hf
  | storeMoveHL x v w hf => exact kept (u := (s.busWrite x v).setHL w) (busWrite_quiet s x v).2.2 hf
  | store16 x v hf => exact kept (memWrite16_quiet s x v).2.2 hf
  | jump w hf => exact kept rfl hf
  | push v w hf hsp => exact kept (u := { s.push16 v with pc := w }) (push16_control_and_f s v).2 hf
  | pop p hf hsp =>
    cases p with
    | af =>
      rw [if_pos (hf.trans (decide_eq_true rfl))]
      exact masked_low _
    | bc | de | hl => exact kept rfl hf
  | ret hf hsp => exact kept rfl hf
  | reti hi => exact kept rfl (hi ▸ rfl)
  | di hi => exact kept rfl (hi ▸ rfl)
  | ei hi => exact kept rfl (hi ▸ rfl)
  | halt hi =>
    refine kept ?_ (hi ▸ rfl)
    exact ite_holds (P := fun u : State => u.f = s.f) (fun _ => rfl) fun _ => rfl
  | stop pad hi => exact kept rfl (hi ▸ rfl)
  | lock opcode hf hi => exact kept rfl hf

/-- Settles O37: the flag summary is `Instr.writesFlags` of what the bytes decode to. -/
theorem onlyTheseWriteFlags : Obligations.OnlyTheseWriteFlags := by
  intro b0 b1 b2 s t h
  have law := (effect_of_exec h).writesFlags
  rw [writesFlags_decode3] at law
  simpa only [opcodeWritesFlags, decide_eq_true_eq] using law

/-! The invariant. -/

/-- A pair, HL moved, SP down: none of it is in the invariant. -/
theorem State.Inv.setRp {s : State} (h : s.Inv) (p : Rp) (v : Word) : (s.setRp p v).Inv := by
  cases p with
  | bc | de | hl | sp => exact h.of_eq rfl h.flags rfl rfl rfl rfl rfl rfl

/-- `POP AF` masks the low nibble (R217). -/
theorem State.Inv.pop {s : State} (h : s.Inv) (p : Rp2) : (s.pop p).Inv := by
  cases p with
  | bc | de | hl => exact h.of_eq rfl h.flags rfl rfl rfl rfl rfl rfl
  | af => exact h.of_eq rfl (masked_low _) rfl rfl rfl rfl rfl rfl

theorem State.Inv.halt {s : State} (h : s.Inv) : s.halt.Inv :=
  ite_holds (P := State.Inv) (fun _ => h.of_eq rfl h.flags rfl rfl rfl rfl rfl rfl)
    fun _ => h.of_eq rfl h.flags rfl rfl rfl rfl rfl rfl

/-- An instruction that leaves the CPU running keeps the invariant. -/
theorem Effect.inv {i : Instr} {s t : State} (h : Effect i s t) (hs : s.Inv) (ht : t.cpuMode = .running) : t.Inv := by
  cases h with
  | operand o v hf => exact hs.setOp8 o v
  | result o r hf => exact hs.putResult o r
  | flags z n h c hf => exact hs.setFlags z n h c
  | pair p v hf hsp => exact hs.setRp p v
  | pairResult p v z n h c hf hsp => exact (hs.setRp p v).setFlags z n h c
  | store x v hf => exact hs.busWrite x v
  | storeMoveHL x v w hf => exact (hs.busWrite x v).setRp .hl w
  | store16 x v hf => exact (hs.busWrite x _).busWrite _ _
  | push v w hf hsp =>
    have pushed := hs.push16 v
    exact pushed.of_eq rfl pushed.flags rfl rfl rfl rfl rfl rfl
  | pop p hf hsp => exact hs.pop p
  | halt hi => exact hs.halt
  | stop pad hi => cases ht
  | lock opcode hf hi => cases ht
  | loadMoveHL | jump | ret | reti | di | ei => exact hs.of_eq rfl hs.flags rfl rfl rfl rfl rfl rfl

theorem State.Inv.afterFetch {s : State} (h : s.Inv) : s.afterFetch.Inv :=
  h.of_eq rfl h.flags rfl rfl rfl rfl rfl rfl

theorem State.Inv.haltExit {s : State} (h : s.Inv) : s.haltExit.Inv :=
  ite_holds (P := State.Inv) (fun _ => h.of_eq rfl h.flags rfl rfl rfl rfl rfl rfl) fun _ => h

end Sys2Proof.Machine
end

section
/-! PROOF. The step, its outcomes, and what it does to the interrupt enable (spec/60_exceptions.md R300 to R308,
R330 to R336). -/

namespace Sys2Proof.Machine

/-! The fetch. -/

/-- Byte 0 of the instruction at PC. -/
def State.opcode (s : State) : Byte := s.busRead s.pc

theorem fetched_eq (s : State) : s.fetched = decode3 s.opcode s.fetchBytes.2.1 s.fetchBytes.2.2 := rfl

/-- The halt exit moves neither PC nor what the bus reads. -/
@[simp] theorem haltExit_opcode (s : State) : s.haltExit.opcode = s.opcode :=
  ite_holds (P := fun u : State => u.opcode = s.opcode) (fun _ => rfl) fun _ => rfl

theorem haltExit_control (s : State) : s.haltExit.ime = s.ime ∧ s.haltExit.imePending = s.imePending ∧
    s.haltExit.cpuMode = s.cpuMode ∧ s.haltExit.params = s.params :=
  ite_holds (P := fun u : State => u.ime = s.ime ∧ u.imePending = s.imePending ∧ u.cpuMode = s.cpuMode ∧
    u.params = s.params) (fun _ => ⟨rfl, rfl, rfl, rfl⟩) fun _ => ⟨rfl, rfl, rfl, rfl⟩

theorem haltExit_of_not_halted {s : State} (h : s.halted = false) : s.haltExit = s := if_neg (by rw [h]; decide)

/-! One instruction. -/

theorem execute_of_exec {i : Instr} {s t : State} (h : exec i s = .next t) :
    s.execute i = t.settle s.imePending (mCycles i s) := by
  rw [State.execute, h]

theorem settle_of_running {t : State} (h : t.cpuMode = .running) (pend0 : Bool) (m : Nat) :
    t.settle pend0 m = .next (t.finish pend0 m) := by
  rw [State.settle, h]

/-- An undefined opcode is a fault with that opcode (R331). -/
theorem runNext_of_undefined {s : State} (h : s.opcode ∈ undefinedOpcodes) :
    s.runNext = .fault (.locked s.opcode) := by
  rw [State.runNext, fetched_eq, execute_of_exec (exec_decode3_undefined h _)]
  rfl

/-- `STOP` is refused (R332). -/
theorem runNext_of_stop {s : State} (h : s.opcode = 0x10#8) : s.runNext = .refused .stopped := by
  rw [State.runNext, fetched_eq, h]
  rfl

/-- Every other instruction leaves the CPU running, and the step goes on. -/
theorem runNext_of_other {s : State} (hs : s.cpuMode = .running) (hundef : s.opcode ∉ undefinedOpcodes)
    (hstop : s.opcode ≠ 0x10#8) : ∃ u, exec s.fetched s.afterFetch = .next u ∧ u.cpuMode = .running ∧
      s.runNext = .next (u.finish s.imePending (mCycles s.fetched s.afterFetch)) := by
  obtain ⟨u, hexec, -⟩ := exec_completes s.fetched s.afterFetch
  obtain ⟨-, -, -, -, mode, -⟩ := (effect_of_exec hexec).writesControl
  have running : u.cpuMode = .running := by
    refine (by_contra fun hne => ?_ : u.cpuMode = s.cpuMode).trans hs
    obtain hi | ⟨pad, hi⟩ := mode hne
    · exact hundef ((decode3_mem_undefinedInstrs_iff _ _ _).1 hi)
    · exact hstop (decode3_eq_of_encode hi rfl)
  exact ⟨u, hexec, running, (execute_of_exec hexec).trans (settle_of_running running _ _)⟩

theorem runNext_eq_next {s t : State} (hs : s.cpuMode = .running) (h : s.runNext = .next t) :
    ∃ u, exec s.fetched s.afterFetch = .next u ∧ u.cpuMode = .running ∧
      t = u.finish s.imePending (mCycles s.fetched s.afterFetch) := by
  have hundef : s.opcode ∉ undefinedOpcodes := fun hop => by cases (runNext_of_undefined hop).symm.trans h
  have hstop : s.opcode ≠ 0x10#8 := fun hop => by cases (runNext_of_stop hop).symm.trans h
  obtain ⟨u, hexec, running, hnext⟩ := runNext_of_other hs hundef hstop
  exact ⟨u, hexec, running, Host.Outcome.next.inj (h.symm.trans hnext)⟩

/-! The three kinds of step. -/

/-- An interrupt is dispatched in this step (R300, R302). -/
def State.DispatchDue (s : State) : Prop := s.ime = true ∧ s.allowed ≠ 0#5

theorem step_of_running {s : State} (h : s.cpuMode = .running) : step s = s.runStep := by
  rw [step, h]

theorem step_of_dispatchDue {s : State} (hs : s.cpuMode = .running) (h : s.DispatchDue) :
    step s = .next (s.dispatch.advance 20) := (step_of_running hs).trans (if_pos h)

theorem step_of_idle {s : State} (hs : s.cpuMode = .running) (halted : s.halted = true) (none : s.allowed = 0#5) :
    step s = .next (s.advance 4) :=
  (step_of_running hs).trans ((if_neg fun h => h.2 none).trans (if_pos ⟨halted, none⟩))

theorem step_of_runNext {s : State} (hs : s.cpuMode = .running) (hdispatch : ¬s.DispatchDue)
    (awake : s.halted = false ∨ s.allowed ≠ 0#5) : step s = s.haltExit.runNext := by
  refine (step_of_running hs).trans ((if_neg hdispatch).trans (if_neg ?_))
  rintro ⟨halted, none⟩
  obtain h | h := awake
  · cases h.symm.trans halted
  · exact h none

/-- Every step of a running machine is one of the three. -/
theorem step_cases {s : State} (hs : s.cpuMode = .running) :
    step s = .next (s.dispatch.advance 20) ∨ step s = .next (s.advance 4) ∨ step s = s.haltExit.runNext := by
  by_cases hdispatch : s.DispatchDue
  · exact .inl (step_of_dispatchDue hs hdispatch)
  · by_cases awake : s.halted = false ∨ s.allowed ≠ 0#5
    · exact .inr (.inr (step_of_runNext hs hdispatch awake))
    · rw [not_or, Bool.not_eq_false, not_not] at awake
      exact .inr (.inl (step_of_idle hs awake.1 awake.2))

/-- Settles O59: the parts of a step each keep the invariant, and an instruction does by `Effect.inv`. -/
theorem everyStepKeepsTheInvariant : Obligations.EveryStepKeepsTheInvariant := by
  intro s t hs h
  obtain hstep | hstep | hstep := step_cases hs.running
  · cases hstep.symm.trans h
    exact (hs.dispatchTo _).advance 20 (by decide)
  · cases hstep.symm.trans h
    exact hs.advance 4 (by decide)
  · have exited := hs.haltExit
    obtain ⟨u, hexec, running, rfl⟩ := runNext_eq_next exited.running (hstep.symm.trans h)
    exact ((effect_of_exec hexec).inv exited.afterFetch running).finish _ _ (mCycles_le exited.afterFetch.cycles _)

theorem sameDriver_dispatch (s : State) : SameDriver s s.dispatch :=
  sameDriver_push16 { s with ime := false, imePending := false, halted := false } s.pc

theorem dispatch_cpuMode (s : State) : s.dispatch.cpuMode = s.cpuMode :=
  (push16_control_and_f { s with ime := false, imePending := false, halted := false } s.pc).1.2.2.2.2

theorem promote_eq_or (s : State) (pend0 : Bool) :
    (pend0 = true ∧ s.imePending = true ∧ s.promote pend0 = { s with ime := true, imePending := false }) ∨
      (¬(pend0 = true ∧ s.imePending = true) ∧ s.promote pend0 = s) := by
  by_cases h : pend0 = true ∧ s.imePending = true
  · exact .inl ⟨h.1, h.2, if_pos (Bool.and_eq_true_iff.2 h)⟩
  · exact .inr ⟨h, if_neg (mt Bool.and_eq_true_iff.1 h)⟩

theorem finish_cpuMode_and_params (s : State) (pend0 : Bool) (m : Nat) :
    (s.finish pend0 m).cpuMode = s.cpuMode ∧ (s.finish pend0 m).params = s.params := by
  have fields : (s.finish pend0 m).cpuMode = (s.promote pend0).cpuMode ∧
    (s.finish pend0 m).params = (s.promote pend0).params := ⟨rfl, rfl⟩
  obtain ⟨-, -, h⟩ | ⟨-, h⟩ := promote_eq_or s pend0
  · rw [h] at fields
    exact fields
  · rwa [h] at fields

/-- Settles O47: the three kinds of step, and the three outcomes of an instruction by its opcode. -/
theorem stepStopsOnlyOnStopAndUndefined : Obligations.StepStopsOnlyOnStopAndUndefined := by
  refine fun s => ⟨fun hs => ?_, fun hs hdispatch awake => ?_, fun opcode h => ?_, fun h => ?_⟩
  · obtain hstep | hstep | hstep := step_cases hs
    · exact .inl ⟨_, hstep, (dispatch_cpuMode s).trans hs, (sameDriver_dispatch s).1⟩
    · exact .inl ⟨_, hstep, hs, rfl⟩
    · obtain ⟨-, -, mode, params⟩ := haltExit_control s
      rw [hstep]
      by_cases hundef : s.haltExit.opcode ∈ undefinedOpcodes
      · rw [runNext_of_undefined hundef]
        rw [haltExit_opcode] at hundef ⊢
        exact .inr (.inr ⟨hundef, rfl⟩)
      · by_cases hstop : s.haltExit.opcode = 0x10#8
        · exact .inr (.inl ⟨(haltExit_opcode s).symm.trans hstop, runNext_of_stop hstop⟩)
        · obtain ⟨u, hexec, running, hnext⟩ := runNext_of_other (mode.trans hs) hundef hstop
          obtain ⟨finishMode, finishParams⟩ := finish_cpuMode_and_params u s.haltExit.imePending
            (mCycles s.haltExit.fetched s.haltExit.afterFetch)
          obtain ⟨t, ht, sameParams, -⟩ := exec_completes s.haltExit.fetched s.haltExit.afterFetch
          cases ht.symm.trans hexec
          exact .inl ⟨_, hnext, finishMode.trans running, finishParams.trans (sameParams.trans params)⟩
  · rw [step_of_runNext hs hdispatch awake]
    constructor
    · exact fun h => runNext_of_stop ((haltExit_opcode s).trans h)
    · intro h
      have hop := haltExit_opcode s
      rw [runNext_of_undefined (hop.symm ▸ h), hop]
      rfl
  · rw [step, h]
  · rw [step, h]

/-- The source taken is the least one allowed (R302, R334). -/
theorem leastSource_least {a : BitVec 5} (h : a ≠ 0#5) : leastSource a < 5 ∧ a.getLsbD (leastSource a) = true ∧
    ∀ j < leastSource a, a.getLsbD j = false := by
  revert a
  decide

theorem getLsbD_allowed (s : State) {i : Nat} (hi : i < 5) :
    s.allowed.getLsbD i = (s.requested.getLsbD i && s.ie.getLsbD i) := by
  rw [State.allowed, BitVec.getLsbD_and, BitVec.getLsbD_extractLsb', decide_eq_true hi, Bool.true_and, Nat.zero_add]

/-- Settles O48: `State.dispatch` of the least source allowed. -/
theorem interruptDispatchStep : Obligations.InterruptDispatchStep := by
  intro s hs ime allowed
  obtain ⟨hlt, hset, hleast⟩ := leastSource_least allowed
  refine ⟨leastSource s.allowed, _, hlt, ?_, fun j hj hboth => ?_, pushed_push16 _ _, ?_⟩
  · exact Bool.and_eq_true_iff.1 ((getLsbD_allowed s hlt).symm.trans hset)
  · have clear := (getLsbD_allowed s (hj.trans hlt)).symm.trans (hleast j hj)
    rw [hboth.1, hboth.2] at clear
    cases clear
  · have mask : BitVec.ofNat 5 (2 ^ leastSource s.allowed) = BitVec.twoPow 5 (leastSource s.allowed) :=
      BitVec.eq_of_toNat_eq ((BitVec.toNat_ofNat _ _).trans (BitVec.toNat_twoPow _ _).symm)
    rw [mask]
    exact step_of_dispatchDue hs ⟨ime, allowed⟩

/-- Settles O49: a halted step idles, or exits the halt and runs the instruction a CPU that is not halted runs. -/
theorem haltedIdleAndExit : Obligations.HaltedIdleAndExit := by
  refine fun s hs halted => ⟨step_of_idle hs halted, fun allowed ime => ?_⟩
  have noDispatch : ∀ {u : State}, u.ime = false → ¬u.DispatchDue := fun hu h => by cases hu.symm.trans h.1
  have exit : s.haltExit = { s with
    halted := false, haltBug := s.haltBug || decide (s.params.haltBugMode = .whileHalted) } := if_pos halted
  obtain ⟨exitIme, -, exitMode, -⟩ := haltExit_control s
  have awake : s.haltExit.halted = false := congrArg State.halted exit
  rw [step_of_runNext hs (noDispatch ime) (.inr allowed), ← exit,
    step_of_runNext (exitMode.trans hs) (noDispatch (exitIme.trans ime)) (.inl awake), haltExit_of_not_halted awake]

/-- Settles O46: the bytes the decoder is given are the ones the step fetches. -/
theorem stepRunsTheDecodedInstruction : Obligations.StepRunsTheDecodedInstruction := by
  intro s t i rest next hs hdispatch halted hnext hdecode hexec running
  obtain rfl : next = s.operandPc := hnext
  obtain ⟨-, hr⟩ := decode_eq_ok_iff.1 hdecode
  obtain rfl : i = s.fetched := (Prod.mk.inj hr).1
  have length : (encode s.fetched).length = lengthOf s.fetchBytes.1 := length_encode_decode3 _ _ _
  rw [length] at hexec ⊢
  rw [step_of_runNext hs hdispatch (.inl halted), haltExit_of_not_halted halted]
  refine ((execute_of_exec hexec).trans (settle_of_running running _ _)).trans ?_
  obtain ⟨hpend, hpend', h⟩ | ⟨hpend, h⟩ := promote_eq_or t s.imePending
  · rw [if_pos ⟨hpend, hpend'⟩, ← h]
    rfl
  · rw [if_neg hpend]
    exact congrArg (fun u => Host.Outcome.next (State.bumpFree (State.advance u _) 2)) h

/-- `DI` and `EI` by their opcodes, whatever bytes follow. -/
theorem decode3_eq_di_iff (b0 b1 b2 : Byte) : decode3 b0 b1 b2 = .di ↔ b0 = 0xF3#8 :=
  ⟨fun h => decode3_eq_of_encode h rfl, fun h => h ▸ rfl⟩

/-- Settles O50: the promotion, after an instruction that changes the enable only as `WritesControl` says. -/
theorem eiTakesEffectOneInstructionLate : Obligations.EiTakesEffectOneInstructionLate := by
  intro s t hs ime halted h
  rw [step_of_runNext hs (fun hdue => by cases ime.symm.trans hdue.1) (.inl halted), haltExit_of_not_halted halted] at h
  obtain ⟨u, hexec, -, rfl⟩ := runNext_eq_next hs h
  have finished : (u.finish s.imePending (mCycles s.fetched s.afterFetch)).imePending =
      (u.promote s.imePending).imePending ∧
    (u.finish s.imePending (mCycles s.fetched s.afterFetch)).ime = (u.promote s.imePending).ime := ⟨rfl, rfl⟩
  rw [finished.1, finished.2]
  have di : s.fetched = .di → u = { s.afterFetch with ime := false, imePending := false } := fun hi => by
    rw [hi] at hexec
    exact (Host.Outcome.next.inj hexec).symm
  refine ⟨fun pend => ?_, fun pend hop => ?_⟩
  · obtain ⟨-, hpend, hpromote⟩ | ⟨hpend, hpromote⟩ := promote_eq_or u s.imePending
    · rw [hpromote]
      refine ⟨rfl, fun _ hop => ?_, fun _ => rfl⟩
      have hu := di ((decode3_eq_di_iff _ _ _).2 hop)
      rw [hu] at hpend
      cases hpend
    · have hu : u.imePending = false := by
        rw [← Bool.not_eq_true]
        exact fun hu => hpend ⟨pend, hu⟩
      obtain ⟨-, pendingLaw, -⟩ := (effect_of_exec hexec).writesControl
      have changed : u.imePending ≠ s.afterFetch.imePending := by
        rw [hu]
        exact fun heq => by cases heq.trans pend
      obtain ⟨-, hset⟩ | ⟨hi, -⟩ := pendingLaw changed
      · cases hu.symm.trans hset
      · rw [hpromote, di hi]
        exact ⟨rfl, nofun, fun hop => absurd ((decode3_eq_di_iff _ _ _).1 hi) hop⟩
  · have hi : s.fetched = .ei := by
      rw [fetched_eq, State.opcode, hop]
      rfl
    rw [hi] at hexec
    have hu : u = { s.afterFetch with imePending := true } :=
      (Host.Outcome.next.inj hexec).symm.trans (if_pos ⟨ime, pend⟩)
    obtain ⟨hpend, -⟩ | ⟨-, hpromote⟩ := promote_eq_or u s.imePending
    · cases pend.symm.trans hpend
    · rw [hpromote, hu]
      exact ⟨rfl, ime⟩

end Sys2Proof.Machine
end

section
/-! PROOF. The bus by regions of the address map (spec/20_memory.md R64 to R84). -/

namespace Sys2Proof.Machine

/-! The DMA lockout, and the regions of a read. -/

theorem busRead_of_locked {s : State} {x : Word} (hdma : 0 < s.dmaRemaining)
    (hx : ¬(0xFF80 ≤ x.toNat ∧ x.toNat ≤ 0xFFFE)) : s.busRead x = 0xFF#8 :=
  if_pos ((locked_iff s x).2 ⟨hdma, hx⟩)

theorem busRead_of_unlocked {s : State} {x : Word} (hdma : s.dmaRemaining = 0) : s.busRead x = s.regionRead x true :=
  if_neg fun h => by have := ((locked_iff s x).1 h).1; omega

theorem regionRead_rom {s : State} {x : Word} {g : Bool} (h : x.toNat < 0x8000) : s.regionRead x g = s.romRead x :=
  if_pos h

theorem regionRead_vram {s : State} {x : Word} {g : Bool} (h : 0x8000 ≤ x.toNat) (h' : x.toNat < 0xA000) :
    s.regionRead x g = if (g && s.vramGated) = true then 0xFF#8 else s.mem.read x.toNat := by
  rw [State.regionRead, if_neg (by omega), if_pos h']

theorem regionRead_sram {s : State} {x : Word} {g : Bool} (h : 0xA000 ≤ x.toNat) (h' : x.toNat < 0xC000) :
    s.regionRead x g = s.cartReadSram x := by
  rw [State.regionRead, if_neg (by omega), if_neg (by omega), if_pos h']

theorem regionRead_wram {s : State} {x : Word} {g : Bool} (h : 0xC000 ≤ x.toNat) (h' : x.toNat < 0xE000) :
    s.regionRead x g = s.mem.read x.toNat := by
  rw [State.regionRead, if_neg (by omega), if_neg (by omega), if_neg (by omega), if_pos h']

theorem regionRead_echo {s : State} {x : Word} {g : Bool} (h : 0xE000 ≤ x.toNat) (h' : x.toNat < 0xFE00) :
    s.regionRead x g = s.mem.read (echoKey s.params.echoHigh x.toNat) := by
  rw [State.regionRead, if_neg (by omega), if_neg (by omega), if_neg (by omega), if_neg (by omega), if_pos h']

theorem regionRead_oam {s : State} {x : Word} {g : Bool} (h : 0xFE00 ≤ x.toNat) (h' : x.toNat < 0xFEA0) :
    s.regionRead x g = if (g && s.oamGated) = true then 0xFF#8 else s.mem.read x.toNat := by
  rw [State.regionRead, if_neg (by omega), if_neg (by omega), if_neg (by omega), if_neg (by omega),
    if_neg (by omega), if_pos h']

theorem regionRead_gap {s : State} {x : Word} {g : Bool} (h : 0xFEA0 ≤ x.toNat) (h' : x.toNat < 0xFF00) :
    s.regionRead x g = 0xFF#8 := by
  rw [State.regionRead, if_neg (by omega), if_neg (by omega), if_neg (by omega), if_neg (by omega),
    if_neg (by omega), if_neg (by omega), if_pos h']

theorem regionRead_io {s : State} {x : Word} {g : Bool} (h : 0xFF00 ≤ x.toNat) (h' : x.toNat < 0xFF80) :
    s.regionRead x g = s.ioRead x.toNat := by
  rw [State.regionRead, if_neg (by omega), if_neg (by omega), if_neg (by omega), if_neg (by omega),
    if_neg (by omega), if_neg (by omega), if_neg (by omega), if_pos h']

theorem regionRead_hram {s : State} {x : Word} {g : Bool} (h : 0xFF80 ≤ x.toNat) (h' : x.toNat < 0xFFFF) :
    s.regionRead x g = s.mem.read x.toNat := by
  rw [State.regionRead, if_neg (by omega), if_neg (by omega), if_neg (by omega), if_neg (by omega),
    if_neg (by omega), if_neg (by omega), if_neg (by omega), if_neg (by omega), if_pos h']

theorem busRead_io {s : State} {x : Word} (hdma : s.dmaRemaining = 0) (h : 0xFF00 ≤ x.toNat) (h' : x.toNat < 0xFF80) :
    s.busRead x = s.ioRead x.toNat := (busRead_of_unlocked hdma).trans (regionRead_io h h')

/-- HRAM answers even under the lockout (R80). -/
theorem busRead_hram {s : State} {x : Word} (h : 0xFF80 ≤ x.toNat) (h' : x.toNat < 0xFFFF) :
    s.busRead x = s.mem.read x.toNat :=
  (if_neg fun hl => ((locked_iff s x).1 hl).2 ⟨h, Nat.le_of_lt_succ h'⟩).trans (regionRead_hram h h')

/-- The boot ROM covers the first 256 bytes while it is enabled, and nothing else (R73). -/
theorem romRead_eq_cartRead {s : State} {x : Word} (h : s.bootRomEnabled = false ∨ 0x0100 ≤ x.toNat) :
    s.romRead x = s.cartRead x :=
  if_neg fun ⟨hx, hb⟩ => h.elim (fun h => by cases h.symm.trans hb) fun h => by omega

theorem romRead_boot {s : State} {x : Word} {image : List Byte} (hx : x.toNat < 0x0100)
    (henabled : s.bootRomEnabled = true) (himage : s.params.bootRom = some image) :
    s.romRead x = image.getD x.toNat 0xFF#8 := by
  rw [State.romRead, if_pos ⟨hx, henabled⟩, himage]

theorem echoKey_wrap (a : Nat) : echoKey .wrap a = 0xC000 + (a - 0xE000) % 4096 := rfl

theorem echoKey_bank1 (a : Nat) : echoKey .bank1 a = 0xC000 + (a - 0xE000) := rfl

/-- Where an echo address is stored: 0x2000 below, and the upper part 0x3000 below under `wrap` (R71). -/
theorem echoKey_low (mode : EchoHigh) {a : Nat} (h : 0xE000 ≤ a) (h' : a ≤ 0xEFFF) : echoKey mode a = a - 0x2000 := by
  cases mode with
  | wrap => rw [echoKey_wrap]; omega
  | bank1 => rw [echoKey_bank1]; omega

theorem echoKey_high (mode : EchoHigh) {a : Nat} (h : 0xF000 ≤ a) (h' : a ≤ 0xFDFF) :
    echoKey mode a = if mode = .wrap then a - 0x3000 else a - 0x2000 := by
  cases mode with
  | wrap => rw [if_pos rfl, echoKey_wrap]; omega
  | bank1 => rw [if_neg nofun, echoKey_bank1]; omega

/-- An echo address is stored in WRAM. -/
theorem echoKey_lt (mode : EchoHigh) {a : Nat} (h : a < 0xFE00) : echoKey mode a < 0xDE00 := by
  cases mode with
  | wrap => rw [echoKey_wrap]; omega
  | bank1 => rw [echoKey_bank1]; omega

/-- The masks of R35 set or clear the upper three bits. -/
theorem ieRead_eq (s : State) : s.ieRead = match s.params.ieUpper with
    | .stored => s.ie
    | .ones => 0b111#3 ++ s.ie.extractLsb' 0 5
    | .zeros => 0b000#3 ++ s.ie.extractLsb' 0 5 := by
  have masks : ∀ v : Byte, v ||| 0xE0#8 = 0b111#3 ++ v.extractLsb' 0 5 ∧
      v &&& 0x1F#8 = 0b000#3 ++ v.extractLsb' 0 5 := by decide
  rw [State.ieRead]
  cases s.params.ieUpper with
  | stored => rfl
  | ones => exact (masks s.ie).1
  | zeros => exact (masks s.ie).2

/-- A stub register answers with its cell (R78). -/
theorem ioRead_of_isStub {s : State} {a : Nat} (h : isStub a = true) : s.ioRead a = s.mem.read a := if_pos h

theorem vramGated_eq_false {s : State} (h : s.ppu.mode ≠ .drawing) : s.vramGated = false :=
  Bool.eq_false_iff.2 (mt (vramGated_iff s).1 h)

theorem oamGated_eq_false {s : State} (h : s.ppu.mode ≠ .oamScan) (h' : s.ppu.mode ≠ .drawing) :
    s.oamGated = false :=
  Bool.eq_false_iff.2 fun hg => ((oamGated_iff s).1 hg).elim h h'

/-- Settles O39: region by region, with the cartridge, the gating, the echo and IE by their own lemmas. -/
theorem busReadByRegion : Obligations.BusReadByRegion := by
  refine fun s x => ⟨busRead_of_locked, fun h h' => busRead_hram h (by omega), fun hdma => ?_⟩
  rw [busRead_of_unlocked hdma]
  refine ⟨fun image hx henabled himage hlen => ?_, fun priv hx hboot => ⟨fun hc => ?_, fun hc => ?_⟩,
    fun h h' hm => ?_, fun h h' hm => ?_, fun priv h h' => ⟨fun hc => ?_, fun hc => ?_⟩, fun h h' => ?_,
    fun h h' => ?_, fun h h' => ?_, fun h h' hm hm' => ?_, fun h h' hm => ?_, fun h h' => ?_, fun hx => ?_,
    fun h h' => ?_, fun hstub => ?_⟩
  · rw [regionRead_rom (by omega), romRead_boot (by omega) henabled himage, List.getD_eq_getElem _ _ hlen,
      List.getElem?_eq_getElem hlen]
  · rw [regionRead_rom (by omega), romRead_eq_cartRead hboot, State.cartRead, hc]
  · rw [regionRead_rom (by omega), romRead_eq_cartRead hboot, State.cartRead, hc]
  · rw [regionRead_vram h (by omega), vramGated_eq_false hm]
    rfl
  · rw [regionRead_vram h (by omega), (vramGated_iff s).2 hm]
    rfl
  · rw [regionRead_sram h (by omega), State.cartReadSram, hc]
  · rw [regionRead_sram h (by omega), State.cartReadSram, hc]
  · exact regionRead_wram h (by omega)
  · rw [regionRead_echo h (by omega), echoKey_low _ h h']
  · rw [regionRead_echo (by omega) (by omega), echoKey_high _ h h']
  · rw [regionRead_oam h (by omega), oamGated_eq_false hm hm']
    rfl
  · rw [regionRead_oam h (by omega), (oamGated_iff s).2 hm]
    rfl
  · exact regionRead_gap h (by omega)
  · rw [hx]
    exact ieRead_eq s
  · exact regionRead_io h (by omega)
  · have range := (isStub_iff x.toNat).1 hstub
    rw [regionRead_io (by omega) (by omega), ioRead_of_isStub hstub]

/-! Plain storage. -/

/-- A cell is at the address that names it, or where its echo address is stored (R66, R71). -/
theorem eq_of_ramKey {s : State} {x : Word} {k : Nat} (h : ramKey s x = some k) :
    k = x.toNat ∨ (k = echoKey s.params.echoHigh x.toNat ∧ x.toNat < 0xFE00) := by
  unfold ramKey at h
  by_cases echo : 0xE000 ≤ x.toNat ∧ x.toNat ≤ 0xFDFF
  · split at h
    · cases h
    · rw [if_neg (by omega), if_neg (by omega)] at h
      exact .inr ⟨(Option.some.inj h).symm, by omega⟩
  · rw [if_neg echo] at h
    repeat' split at h
    all_goals cases h
    all_goals exact .inl rfl

/-- The joypad's cell is named by its own address alone (R78). -/
theorem eq_of_ramKey_eq_joypad {s : State} {y : Word} (h : ramKey s y = some 0xFF00) : y = 0xFF00#16 := by
  obtain h | ⟨h, hy⟩ := eq_of_ramKey h
  · exact BitVec.eq_of_toNat_eq h.symm
  · have := echoKey_lt s.params.echoHigh hy
    omega

/-- Every address that names the cell a store went to, but the joypad's, reads the byte stored. -/
theorem busRead_store_same {s : State} {y : Word} {k : Nat} (v : Byte) (hm : s.mem.wf = true)
    (hy : ramKey s y = some k) (hne : y ≠ 0xFF00#16) : (s.store k v).busRead y = v := by
  have hk : k ≠ 0xFF00 := by
    rintro rfl
    exact hne (eq_of_ramKey_eq_joypad hy)
  rw [busRead_of_ramKey (s := s.store k v) hy hk]
  exact Memory.read_write_same v hm

/-- Every other address reads as before. -/
theorem busRead_store_other {s : State} {x y : Word} {k : Nat} (v : Byte) (hm : s.mem.wf = true)
    (hx : ramKey s x = some k) (hy : ramKey s y ≠ some k) : (s.store k v).busRead y = s.busRead y := by
  obtain ⟨-, -, cells⟩ := storeFrame_busWrite s x v
  obtain ⟨-, -, -, others⟩ := cells hm
  rw [hx, busWrite_of_ramKey v hx] at others
  exact others nofun y hy

/-- Settles O40: a write to an address that names a cell is `State.store`. -/
theorem storedByteReadsBack : Obligations.StoredByteReadsBack := by
  intro s x v k hm hx
  rw [busWrite_of_ramKey v hx]
  exact ⟨fun y => busRead_store_same v hm, fun y => busRead_store_other v hm hx, Memory.wf_write k v hm, rfl⟩

/-- Half a push onto a cell: the cell is written, SP is down by one, and every address names the cell it named. -/
theorem push8_of_ramKey {s : State} {k : Nat} (v : Byte) (h : ramKey s (s.sp - 1#16) = some k) :
    s.push8 v = State.store { s with sp := s.sp - 1#16 } k v :=
  busWrite_of_ramKey (s := { s with sp := s.sp - 1#16 }) v h

theorem busRead_push8_same {s : State} {k : Nat} (v : Byte) (hm : s.mem.wf = true)
    (h : ramKey s (s.sp - 1#16) = some k) (hne : s.sp - 1#16 ≠ 0xFF00#16) :
    (s.push8 v).busRead (s.sp - 1#16) = v := by
  rw [push8_of_ramKey v h]
  exact busRead_store_same (s := { s with sp := s.sp - 1#16 }) v hm h hne

theorem busRead_push8_other {s : State} {k : Nat} {y : Word} (v : Byte) (hm : s.mem.wf = true)
    (h : ramKey s (s.sp - 1#16) = some k) (hy : ramKey s y ≠ some k) : (s.push8 v).busRead y = s.busRead y := by
  rw [push8_of_ramKey v h]
  exact busRead_store_other (s := { s with sp := s.sp - 1#16 }) v hm h hy

theorem push8_keeps {s : State} {k : Nat} (v : Byte) (hm : s.mem.wf = true) (h : ramKey s (s.sp - 1#16) = some k) :
    (s.push8 v).mem.wf = true ∧ (s.push8 v).sp = s.sp - 1#16 ∧ ∀ y, ramKey (s.push8 v) y = ramKey s y := by
  rw [push8_of_ramKey v h]
  exact ⟨Memory.wf_write k v hm, rfl, fun y => rfl⟩

/-- The word pushed onto two cells is on top of the stack. -/
theorem stackTop_push16 {s : State} (w : Word) {k k' : Nat} (hm : s.mem.wf = true)
    (hk : ramKey s (s.sp - 1#16) = some k) (hk' : ramKey s (s.sp - 2#16) = some k') (hne : k ≠ k')
    (h1 : s.sp - 1#16 ≠ 0xFF00#16) (h2 : s.sp - 2#16 ≠ 0xFF00#16) : (s.push16 w).stackTop = w := by
  have high := busRead_push8_same (hiByte w) hm hk h1
  obtain ⟨wf, sp, keys⟩ := push8_keeps (hiByte w) hm hk
  rw [State.push16]
  generalize s.push8 (hiByte w) = u at high wf sp keys
  have second : u.sp - 1#16 = s.sp - 2#16 := by rw [sp]; bv_omega
  have below : ramKey u (u.sp - 1#16) = some k' := by rw [second, keys, hk']
  have above : ramKey u (s.sp - 1#16) ≠ some k' := by
    rw [keys, hk]
    exact fun h => hne (Option.some.inj h)
  obtain ⟨-, sp', -⟩ := push8_keeps (loByte w) wf below
  have next : (u.push8 (loByte w)).sp + 1#16 = s.sp - 1#16 := by rw [sp', sp]; bv_omega
  rw [State.stackTop, next, sp', busRead_push8_same _ wf below (second ▸ h2), busRead_push8_other _ wf below above,
    high, wordOf_hiByte_loByte]

/-- Settles O45: the pop reads the word on top of the stack. -/
theorem popReadsWhatPushStored : Obligations.PopReadsWhatPushStored := by
  intro s w k k' hm hk hk' hne h1 h2
  generalize hs : ({ s with b := w.extractLsb' 8 8, c := w.extractLsb' 0 8 } : State) = s'
  have pair : s'.bc = w := by
    subst hs
    exact wordOf_hiByte_loByte w
  have top : (s'.push16 w).stackTop = w := by
    subst hs
    exact stackTop_push16 w hm hk hk' hne h1 h2
  have sp : (s'.push16 w).sp = s.sp - 2#16 := by
    rw [(pushed_push16 s' w).1, ← hs]
  refine ⟨s'.push16 s'.bc, _, rfl, rfl, ?_⟩
  rw [pair]
  refine ⟨?_, ?_⟩
  · exact (wordOf_hiByte_loByte _).trans top
  · show (s'.push16 w).sp + 2#16 = s.sp
    rw [sp]
    bv_omega

/-! Writes. -/

end Sys2Proof.Machine
end

section
/-! PROOF. The writes by regions of the address map, the I/O registers, and the OAM DMA (spec/20_memory.md R65 to R85,
spec/60_exceptions.md R344 to R352). -/

namespace Sys2Proof.Machine

/-! The regions of a write. -/

theorem busWrite_of_locked {s : State} {x : Word} (v : Byte) (hdma : 0 < s.dmaRemaining)
    (hx : ¬(0xFF80 ≤ x.toNat ∧ x.toNat ≤ 0xFFFE)) : s.busWrite x v = s :=
  if_pos ((locked_iff s x).2 ⟨hdma, hx⟩)

theorem busWrite_of_unlocked {s : State} {x : Word} (v : Byte) (hdma : s.dmaRemaining = 0) :
    s.busWrite x v = s.regionWrite x v :=
  if_neg fun h => by have := ((locked_iff s x).1 h).1; omega

/-- A write that the region ignores is ignored, locked out or not. -/
theorem busWrite_of_regionWrite {s : State} {x : Word} {v : Byte} (h : s.regionWrite x v = s) : s.busWrite x v = s :=
  ite_holds (P := (· = s)) (fun _ => rfl) fun _ => h

theorem regionWrite_rom {s : State} {x : Word} (v : Byte) (h : x.toNat < 0x8000) :
    s.regionWrite x v = s.cartWrite x v := if_pos h

theorem regionWrite_gatedVram {s : State} {x : Word} (v : Byte) (h : 0x8000 ≤ x.toNat) (h' : x.toNat < 0xA000)
    (hg : s.vramGated = true) : s.regionWrite x v = s := by
  rw [State.regionWrite, if_neg (by omega), if_pos h', if_pos hg]

theorem regionWrite_sram {s : State} {x : Word} (v : Byte) (h : 0xA000 ≤ x.toNat) (h' : x.toNat < 0xC000) :
    s.regionWrite x v = s.cartWriteSram x v := by
  rw [State.regionWrite, if_neg (by omega), if_neg (by omega), if_pos h']

theorem regionWrite_gatedOam {s : State} {x : Word} (v : Byte) (h : 0xFE00 ≤ x.toNat) (h' : x.toNat < 0xFEA0)
    (hg : s.oamGated = true) : s.regionWrite x v = s := by
  rw [State.regionWrite, if_neg (by omega), if_neg (by omega), if_neg (by omega), if_neg (by omega),
    if_neg (by omega), if_pos h', if_pos hg]

theorem regionWrite_gap {s : State} {x : Word} (v : Byte) (h : 0xFEA0 ≤ x.toNat) (h' : x.toNat < 0xFF00) :
    s.regionWrite x v = s := by
  rw [State.regionWrite, if_neg (by omega), if_neg (by omega), if_neg (by omega), if_neg (by omega),
    if_neg (by omega), if_neg (by omega), if_pos h']

theorem regionWrite_io {s : State} {x : Word} (v : Byte) (h : 0xFF00 ≤ x.toNat) (h' : x.toNat < 0xFF80) :
    s.regionWrite x v = s.ioWrite x.toNat v := by
  rw [State.regionWrite, if_neg (by omega), if_neg (by omega), if_neg (by omega), if_neg (by omega),
    if_neg (by omega), if_neg (by omega), if_neg (by omega), if_pos h']

theorem busWrite_io {s : State} {x : Word} (v : Byte) (hdma : s.dmaRemaining = 0) (h : 0xFF00 ≤ x.toNat)
    (h' : x.toNat < 0xFF80) : s.busWrite x v = s.ioWrite x.toNat v :=
  (busWrite_of_unlocked v hdma).trans (regionWrite_io v h h')

/-- The I/O addresses without a register, those of the CGB, and LY (R77, R79, R352). -/
theorem ioWrite_ignored (s : State) {n : Nat} (v : Byte) (h : n = 0xFF03 ∨ (0xFF08 ≤ n ∧ n ≤ 0xFF0E) ∨
    (0xFF27 ≤ n ∧ n ≤ 0xFF2F) ∨ n = 0xFF44 ∨ (0xFF4C ≤ n ∧ n ≤ 0xFF4F) ∨ (0xFF51 ≤ n ∧ n ≤ 0xFF7F)) :
    s.ioWrite n v = s := by
  rw [State.ioWrite, if_neg (by rw [Bool.or_eq_true, decide_eq_true_eq, isStub_iff]; omega)]
  repeat rw [if_neg (by omega)]

theorem ioRead_unmapped (s : State) {n : Nat} (h : n = 0xFF03 ∨ (0xFF08 ≤ n ∧ n ≤ 0xFF0E) ∨
    (0xFF27 ≤ n ∧ n ≤ 0xFF2F) ∨ (0xFF4C ≤ n ∧ n ≤ 0xFF7F)) : s.ioRead n = 0xFF#8 := by
  rw [State.ioRead, if_neg (by rw [isStub_iff]; omega)]
  repeat rw [if_neg (by omega)]

/-- Settles O41: region by region. -/
theorem ignoredWritesChangeNothing : Obligations.IgnoredWritesChangeNothing := by
  refine fun s x v => ⟨?_, fun priv hdma hc => ⟨fun h => ?_, fun h h' => ?_⟩⟩
  · have io : (x.toNat = 0xFF03 ∨ (0xFF08 ≤ x.toNat ∧ x.toNat ≤ 0xFF0E) ∨ (0xFF27 ≤ x.toNat ∧ x.toNat ≤ 0xFF2F) ∨
        x.toNat = 0xFF44 ∨ (0xFF4C ≤ x.toNat ∧ x.toNat ≤ 0xFF4F) ∨ (0xFF51 ≤ x.toNat ∧ x.toNat ≤ 0xFF7F)) →
        s.busWrite x v = s := fun h =>
      busWrite_of_regionWrite ((regionWrite_io v (by omega) (by omega)).trans (ioWrite_ignored s v h))
    rintro (⟨hdma, hx⟩ | ⟨h, h', hm⟩ | ⟨h, h', hm⟩ | ⟨h, h'⟩ | rfl | h | h | rfl | h | h | ⟨hc, h⟩ | ⟨hc, h, h'⟩)
    · exact busWrite_of_locked v hdma hx
    · exact busWrite_of_regionWrite (regionWrite_gatedVram v h (by omega) ((vramGated_iff s).2 hm))
    · exact busWrite_of_regionWrite (regionWrite_gatedOam v h (by omega) ((oamGated_iff s).2 hm))
    · exact busWrite_of_regionWrite (regionWrite_gap v h (by omega))
    · exact io (by decide)
    · exact io (by omega)
    · exact io (by omega)
    · exact io (by decide)
    · exact io (by omega)
    · exact io (by omega)
    · refine busWrite_of_regionWrite ((regionWrite_rom v (by omega)).trans ?_)
      rw [State.cartWrite, hc]
    · refine busWrite_of_regionWrite ((regionWrite_sram v h (by omega)).trans ?_)
      rw [State.cartWriteSram, hc]
  · rw [busWrite_of_unlocked v hdma, regionWrite_rom v (by omega), State.cartWrite, hc]
  · rw [busWrite_of_unlocked v hdma, regionWrite_sram v h (by omega), State.cartWriteSram, hc]

/-! The registers of the timer, the interrupt controller and the video controller. -/

/-- The signal of a timer whose divider is 0 is low. -/
theorem sig_of_div16_zero (t : Timer) : Timer.sig { t with div16 := 0#16 } = false := by
  rw [Timer.sig, BitVec.getLsbD_zero, Bool.and_false]

theorem writeDiv_eq (t : Timer) : t.writeDiv =
    if (t.tac.getLsbD 2 && t.div16.getLsbD t.sel) = true then Timer.incTima { t with div16 := 0#16 }
    else ({ t with div16 := 0#16 }, false) := by
  rw [Timer.writeDiv, Timer.fallingEdge, sig_of_div16_zero, Bool.not_false, Bool.and_true]
  rfl

theorem writeTac_eq (t : Timer) (v : Byte) : t.writeTac v =
    if t.sig = true ∧ Timer.sig { t with tac := v.extractLsb' 0 3 } = false
    then Timer.incTima { t with tac := v.extractLsb' 0 3 } else ({ t with tac := v.extractLsb' 0 3 }, false) := by
  simp only [Timer.writeTac, Timer.fallingEdge, Bool.and_eq_true, Bool.not_eq_true']

/-- Settles O42: each register by its address. -/
theorem ioRegisterAccess : Obligations.IoRegisterAccess := by
  intro s v hdma
  have read : ∀ x : Word, 0xFF00 ≤ x.toNat → x.toNat < 0xFF80 → s.busRead x = s.ioRead x.toNat :=
    fun x => busRead_io hdma
  have write : ∀ x : Word, 0xFF00 ≤ x.toNat → x.toNat < 0xFF80 → s.busWrite x v = s.ioWrite x.toNat v :=
    fun x => busWrite_io v hdma
  refine ⟨read _ (by decide) (by decide), read _ (by decide) (by decide), read _ (by decide) (by decide),
    read _ (by decide) (by decide), read _ (by decide) (by decide), read _ (by decide) (by decide),
    read _ (by decide) (by decide), fun x hx => ?_, ⟨_, _, writeDiv_eq s.timer, write _ (by decide) (by decide)⟩,
    write _ (by decide) (by decide), write _ (by decide) (by decide),
    ⟨_, _, writeTac_eq s.timer v, write _ (by decide) (by decide)⟩, write _ (by decide) (by decide),
    busWrite_of_unlocked v hdma, write _ (by decide) (by decide)⟩
  have hx' : x.toNat = 0xFF03 ∨ (0xFF08 ≤ x.toNat ∧ x.toNat ≤ 0xFF0E) ∨ (0xFF27 ≤ x.toNat ∧ x.toNat ≤ 0xFF2F) ∨
      (0xFF4C ≤ x.toNat ∧ x.toNat ≤ 0xFF7F) := hx.imp_left (congrArg BitVec.toNat)
  rw [read x (by omega) (by omega), ioRead_unmapped s hx']

theorem writeLcdc_lcdc (p : Ppu) (v : Byte) : (p.writeLcdc v).1.lcdc = v :=
  ite_holds (P := fun r : Ppu × BitVec 5 => r.1.lcdc = v) (fun _ => rfl) fun _ =>
    ite_holds (P := fun r : Ppu × BitVec 5 => r.1.lcdc = v) (fun _ => rfl) fun _ => rfl

/-- Settles O43: each register by its address; the registers other than LCDC are plain fields. -/
theorem videoRegistersRoundTrip : Obligations.VideoRegistersRoundTrip := by
  intro s v hdma
  have read : ∀ x : Word, 0xFF00 ≤ x.toNat → x.toNat < 0xFF80 → s.busRead x = s.ioRead x.toNat :=
    fun x => busRead_io hdma
  refine ⟨read _ (by decide) (by decide), read _ (by decide) (by decide),
    read _ (by decide) (by decide), read _ (by decide) (by decide), read _ (by decide) (by decide),
    read _ (by decide) (by decide), read _ (by decide) (by decide), read _ (by decide) (by decide),
    read _ (by decide) (by decide), read _ (by decide) (by decide), read _ (by decide) (by decide),
    busWrite_io v hdma (by decide) (by decide), fun x hx => ?_⟩
  simp only [List.mem_cons, List.not_mem_nil, or_false] at hx
  have range : 0xFF00 ≤ x.toNat ∧ x.toNat < 0xFF80 := by
    obtain rfl | rfl | rfl | rfl | rfl | rfl | rfl | rfl | rfl | rfl := hx <;> decide
  rw [busWrite_io v hdma range.1 range.2]
  have readBack : (s.ioWrite x.toNat v).dmaRemaining = 0 →
      (s.ioWrite x.toNat v).busRead x = (s.ioWrite x.toNat v).ioRead x.toNat := fun h => busRead_io h range.1 range.2
  obtain rfl | hx := hx
  · exact ⟨(readBack hdma).trans (writeLcdc_lcdc s.ppu v), rfl, absurd rfl⟩
  · obtain rfl | rfl | rfl | rfl | rfl | rfl | rfl | rfl | rfl := hx <;>
      exact ⟨readBack hdma, rfl, fun _ => ⟨rfl, rfl⟩⟩

/-! The OAM DMA. -/

theorem toNat_wordOf (hi lo : Byte) : (wordOf hi lo).toNat = 256 * hi.toNat + lo.toNat := by
  rw [wordOf, BitVec.toNat_append, ← Nat.shiftLeft_add_eq_or_of_lt lo.isLt, Nat.shiftLeft_eq]
  omega

/-- A register read depends on the memory through its own cell, and on the counter at the DMA trigger alone. -/
theorem ioRead_congr {s : State} {m : Memory} {c n : Nat} (h46 : n ≠ 0xFF46) (hn : m.read n = s.mem.read n) :
    State.ioRead { s with mem := m, freeCtr := c } n = s.ioRead n := by
  simp only [State.ioRead, hn, h46, if_false]

/-- An ungated read of any address but the DMA trigger depends on the memory through the cell at the address and
the cells below OAM, and not on the counter. -/
theorem regionRead_congr {s : State} {m : Memory} {c : Nat} {x : Word} (h46 : x.toNat ≠ 0xFF46)
    (hx : m.read x.toNat = s.mem.read x.toNat) (hm : ∀ k < 0xFE00, m.read k = s.mem.read k) :
    State.regionRead { s with mem := m, freeCtr := c } x false = s.regionRead x false := by
  have rom : State.romRead { s with mem := m, freeCtr := c } x = s.romRead x := by
    simp only [State.romRead, State.cartRead, hx]
  have echo : x.toNat < 0xFE00 →
      m.read (echoKey s.params.echoHigh x.toNat) = s.mem.read (echoKey s.params.echoHigh x.toNat) := fun h =>
    hm _ (Nat.lt_trans (echoKey_lt _ h) (by decide))
  simp only [State.regionRead, rom, Bool.false_and, hx, ioRead_congr h46 hx]
  split
  · rfl
  split
  · rfl
  split
  · rfl
  split
  · rfl
  split
  · exact echo ‹_›
  · rfl

/-- The copy reads each source byte as it was before the copy: the cells it has written by then are other ones
(R85, D18). -/
theorem dmaCopy_read (n i : Nat) (v : Byte) (s : State) (hm : s.mem.wf = true) (hi : i + n ≤ 160) {j : Nat}
    (hij : i ≤ j) (hj : j < i + n) (h46 : ¬(v = 0xFF#8 ∧ j = 0x46)) :
    (s.dmaCopy n i v).mem.read (0xFE00 + j) = s.regionRead (wordOf v (BitVec.ofNat 8 j)) false := by
  induction n generalizing i s with
  | zero => omega
  | succ n ih =>
    have source : (wordOf v (BitVec.ofNat 8 j)).toNat = 256 * v.toNat + j := by
      rw [toNat_wordOf, BitVec.toNat_ofNat, Nat.mod_eq_of_lt (by omega)]
    have trigger : (wordOf v (BitVec.ofNat 8 j)).toNat ≠ 0xFF46 := fun h =>
      h46 ⟨BitVec.eq_of_toNat_eq (by rw [source] at h; show v.toNat = 255; omega), by omega⟩
    rw [State.dmaCopy]
    have wf := Memory.wf_write (0xFE00 + i)
      ((s.bumpFree 1).regionRead (wordOf v (BitVec.ofNat 8 i)) false) hm
    obtain rfl | hlt := Nat.eq_or_lt_of_le hij
    · rw [(dmaCopy_mem n (i + 1) v _ wf).2.1 _ (.inl (by omega))]
      refine (Memory.read_write_same _ hm).trans ?_
      exact regionRead_congr trigger rfl fun _ _ => rfl
    · rw [ih (i + 1) _ wf (by omega) hlt (by omega)]
      refine regionRead_congr (s := s) trigger ?_ fun k hk => ?_
      · refine Memory.read_write_other _ hm ?_
        rw [source]
        have := v.isLt
        omega
      · exact Memory.read_write_other _ hm (by omega)

theorem dmaTrigger_eq (s : State) (v : Byte) :
    s.dmaTrigger v = { s with mem := (s.dmaCopy 160 0 v).mem, dmaRemaining := 640 } := by
  rw [State.dmaTrigger, dmaCopy_eq]

/-- Settles O44: the write is `State.dmaTrigger`. -/
theorem dmaTriggerCopiesToOam : Obligations.DmaTriggerCopiesToOam := by
  intro s v hm hdma
  have write : s.busWrite 0xFF46#16 v = s.dmaTrigger v := busWrite_io v hdma (by decide) (by decide)
  rw [write, dmaTrigger_mem]
  refine ⟨rfl, fun i hi h46 => ?_, fun k hk => ?_, dmaTrigger_eq s v⟩
  · exact dmaCopy_read 160 0 v s hm (by decide) (Nat.zero_le i) (by omega) h46
  · exact (dmaCopy_mem 160 0 v s hm).2.1 k (by omega)

end Sys2Proof.Machine
end

section
/-! PROOF. The timer's period and its reload (spec/60_exceptions.md R344 to R348). -/

namespace Sys2Proof.Machine

/-- The T-cycles between two falling edges of the divider bit that TAC selects (R345). -/
def Timer.period (t : Timer) : Nat := 2 ^ (t.sel + 1)

/-- The T-cycles since the last falling edge. -/
def Timer.phase (t : Timer) : Nat := t.div16.toNat % t.period

/-- The four rates of R345. -/
theorem Timer.period_cases (t : Timer) :
    (t.tac.extractLsb' 0 2 = 0#2 ∧ t.sel = 9 ∧ t.period = 1024) ∨
    (t.tac.extractLsb' 0 2 = 1#2 ∧ t.sel = 3 ∧ t.period = 16) ∨
    (t.tac.extractLsb' 0 2 = 2#2 ∧ t.sel = 5 ∧ t.period = 64) ∨
    (t.tac.extractLsb' 0 2 = 3#2 ∧ t.sel = 7 ∧ t.period = 256) := by
  unfold Timer.period Timer.sel
  generalize t.tac.extractLsb' 0 2 = rate
  revert rate
  decide

theorem Timer.phase_lt (t : Timer) : t.phase < t.period := Nat.mod_lt _ (Nat.two_pow_pos _)

/-- The selected bit is set in the second half of the period. -/
theorem Timer.sig_eq (t : Timer) : t.sig = (t.tac.getLsbD 2 && decide (t.period ≤ 2 * t.phase)) := by
  have bit : t.div16.getLsbD t.sel = decide (t.div16.toNat / 2 ^ t.sel % 2 = 1) := Nat.testBit_eq_decide_div_mod_eq
  rw [Timer.sig, Timer.phase, bit]
  obtain ⟨-, hsel, hperiod⟩ | ⟨-, hsel, hperiod⟩ | ⟨-, hsel, hperiod⟩ | ⟨-, hsel, hperiod⟩ := t.period_cases <;>
  · rw [hsel, hperiod]
    exact congrArg _ (decide_eq_decide.2 (by omega))

/-- The phase after one more T-cycle: every period divides the divider's 65536. -/
theorem Timer.phase_succ (t : Timer) : Timer.phase { t with div16 := t.div16 + 1#16 } =
    if t.phase + 1 = t.period then 0 else t.phase + 1 := by
  have hdiv : (t.div16 + 1#16).toNat = (t.div16.toNat + 1) % 65536 := toNat_add_one _
  show (t.div16 + 1#16).toNat % t.period = _
  rw [Timer.phase, hdiv]
  obtain ⟨-, -, hperiod⟩ | ⟨-, -, hperiod⟩ | ⟨-, -, hperiod⟩ | ⟨-, -, hperiod⟩ := t.period_cases <;>
  · rw [hperiod]
    split <;> omega

/-- The phase after more T-cycles of the same period. -/
theorem Timer.phase_add {t : Timer} {n : Nat} (h : t.phase + n < t.period) :
    Timer.phase { t with div16 := t.div16 + BitVec.ofNat 16 n } = t.phase + n := by
  have hdiv : (t.div16 + BitVec.ofNat 16 n).toNat = (t.div16.toNat + n) % 65536 := by
    rw [BitVec.toNat_add, BitVec.toNat_ofNat, Nat.add_mod_mod]
  show (t.div16 + BitVec.ofNat 16 n).toNat % t.period = _
  rw [Timer.phase] at h ⊢
  rw [hdiv]
  obtain ⟨-, -, hperiod⟩ | ⟨-, -, hperiod⟩ | ⟨-, -, hperiod⟩ | ⟨-, -, hperiod⟩ := t.period_cases <;>
  · rw [hperiod] at h ⊢
    omega

theorem Timer.countdown_phase_and_period (t : Timer) :
    t.countdown.phase = t.phase ∧ t.countdown.period = t.period := by
  have same : t.countdown.period = t.period := by
    rw [Timer.period, Timer.sel, Timer.countdown_tac]
    rfl
  rw [Timer.phase, same, Timer.countdown_div16]
  exact ⟨rfl, rfl⟩

theorem Timer.period_ge (t : Timer) : 16 ≤ t.period := by
  obtain ⟨-, -, h⟩ | ⟨-, -, h⟩ | ⟨-, -, h⟩ | ⟨-, -, h⟩ := t.period_cases <;> omega

theorem Timer.countdown_phase_succ (t : Timer) : Timer.phase { t.countdown with div16 := t.div16 + 1#16 } =
    if t.phase + 1 = t.period then 0 else t.phase + 1 := by
  obtain ⟨hphase, hperiod⟩ := t.countdown_phase_and_period
  have hsucc := t.countdown.phase_succ
  rwa [hphase, hperiod, Timer.countdown_div16] at hsucc

/-- A tick counts TIMA when it ends a period of an enabled timer, and otherwise moves the divider and the reload
countdown alone (R346, R348). -/
theorem Timer.tick_eq (t : Timer) : t.tick =
    if t.tac.getLsbD 2 = true ∧ t.phase + 1 = t.period
    then Timer.incTima { t.countdown with div16 := t.div16 + 1#16 }
    else ({ t.countdown with div16 := t.div16 + 1#16 }, false) := by
  obtain ⟨hphase, hperiod⟩ := t.countdown_phase_and_period
  have hlarge := t.period_ge
  have hlt := t.phase_lt
  have after : Timer.sig { t.countdown with div16 := t.div16 + 1#16 } =
      (t.tac.getLsbD 2 && decide (t.period ≤ 2 * if t.phase + 1 = t.period then 0 else t.phase + 1)) := by
    rw [Timer.sig_eq, Timer.countdown_phase_succ]
    show (t.countdown.tac.getLsbD 2 && decide (t.countdown.period ≤ _)) = _
    rw [hperiod, Timer.countdown_tac]
  have falls : (t.countdown.sig && !Timer.sig { t.countdown with div16 := t.div16 + 1#16 }) = true ↔
      t.tac.getLsbD 2 = true ∧ t.phase + 1 = t.period := by
    rw [after, Timer.sig_eq, hphase, hperiod, Timer.countdown_tac]
    cases t.tac.getLsbD 2 with
    | false => simp
    | true =>
      simp only [Bool.true_and, Bool.and_eq_true, Bool.not_eq_true', decide_eq_true_eq, decide_eq_false_iff_not,
        true_and]
      split <;> omega
  simp only [Timer.tick, Timer.fallingEdge, Timer.countdown_div16, falls]

/-- Ticks before the end of the period, and before a pending reload, move the divider and the countdown alone. -/
theorem Timer.advance_quiet (n : Nat) {t : Timer} (hphase : t.phase + n < t.period)
    (hreload : t.reloadDelay = 0 ∨ n < t.reloadDelay) : Timer.advance n t false =
      ({ t with div16 := t.div16 + BitVec.ofNat 16 n, reloadDelay := t.reloadDelay - n }, false) := by
  induction n generalizing t with
  | zero => rw [BitVec.add_zero]; rfl
  | succ n ih =>
    have countdown : t.countdown = { t with reloadDelay := t.reloadDelay - 1 } := by
      rw [Timer.countdown]
      split
      · next h =>
        have same : t.reloadDelay - 1 = t.reloadDelay := by omega
        rw [same]
      · rw [if_neg (by omega)]
    have tick : t.tick = ({ t with div16 := t.div16 + 1#16, reloadDelay := t.reloadDelay - 1 }, false) := by
      rw [Timer.tick_eq, if_neg (by omega), countdown]
    have hsucc := t.phase_succ
    rw [if_neg (by omega)] at hsucc
    have rest := ih (t := { t with div16 := t.div16 + 1#16, reloadDelay := t.reloadDelay - 1 })
      (lt_of_eq_of_lt (congrArg (· + n) hsucc) (by show t.phase + 1 + n < t.period; omega))
      (by show t.reloadDelay - 1 = 0 ∨ n < t.reloadDelay - 1; omega)
    have hdiv : t.div16 + 1#16 + BitVec.ofNat 16 n = t.div16 + BitVec.ofNat 16 (n + 1) := by
      rw [BitVec.add_assoc, Nat.add_comm n 1, BitVec.ofNat_add]
    rw [Timer.advance_succ, tick, rest, hdiv, Nat.sub_sub, Nat.add_comm 1 n]
    rfl

/-- An advance in two parts. -/
theorem Timer.advance_add (m n : Nat) (t : Timer) : Timer.advance (m + n) t false =
    ((Timer.advance n (Timer.advance m t false).1 false).1,
      (Timer.advance m t false).2 || (Timer.advance n (Timer.advance m t false).1 false).2) := by
  induction m generalizing t with
  | zero => rw [Nat.zero_add]; rfl
  | succ m ih => rw [Nat.add_right_comm, Timer.advance_succ, ih, Timer.advance_succ m, Bool.or_assoc]

/-- The overflow tick (R347, R348): it ends a period, so the phase after it is 0. -/
theorem Timer.tick_overflow {t u : Timer} (h : t.tick = (u, true)) :
    u.tima = 0x00#8 ∧ u.reloadDelay = 4 ∧ u.tma = t.tma ∧ u.phase = 0 := by
  rw [Timer.tick_eq] at h
  split at h
  · next edge =>
    rw [Timer.incTima] at h
    split at h
    · obtain ⟨rfl, -⟩ := Prod.mk.inj h
      refine ⟨rfl, rfl, t.countdown_tma, ?_⟩
      exact t.countdown_phase_succ.trans (if_pos edge.2)
    · cases (Prod.mk.inj h).2
  · cases (Prod.mk.inj h).2

/-- The tick that a pending reload was waiting for. -/
theorem Timer.tick_reloads {t : Timer} (hphase : t.phase + 1 ≠ t.period) (hreload : t.reloadDelay = 1) :
    t.tick = ({ t with div16 := t.div16 + 1#16, reloadDelay := 0, tima := t.tma }, false) := by
  have countdown : t.countdown = { t with reloadDelay := 0, tima := t.tma } := by
    rw [Timer.countdown, if_neg (by omega), if_pos hreload]
  rw [Timer.tick_eq, if_neg fun edge => hphase edge.2, countdown]

/-- Settles O51: after the overflow the phase is 0, so the next three ticks only count down, and the fourth reloads. -/
theorem timerOverflowReloadsAfterFour : Obligations.TimerOverflowReloadsAfterFour := by
  refine ⟨fun t => rfl, fun t u h => ?_⟩
  obtain ⟨tima, reload, tma, phase⟩ := Timer.tick_overflow h
  have hge := u.period_ge
  have quiet : ∀ n ≤ 3, Timer.advance n u false =
      ({ u with div16 := u.div16 + BitVec.ofNat 16 n, reloadDelay := u.reloadDelay - n }, false) := fun n hn =>
    Timer.advance_quiet n (by omega) (by omega)
  have fourth := Timer.tick_reloads
    (t := { u with div16 := u.div16 + BitVec.ofNat 16 3, reloadDelay := u.reloadDelay - 3 })
    (by
      have third := Timer.phase_add (t := u) (n := 3) (by omega)
      refine ne_of_eq_of_ne (congrArg (· + 1) third) ?_
      show u.phase + 3 + 1 ≠ u.period
      omega)
    (by show u.reloadDelay - 3 = 1; omega)
  have four : Timer.advance 4 u false = _ := Timer.advance_add 3 1 u
  rw [quiet 3 (by omega)] at four
  have one : ∀ v : Timer, Timer.advance 1 v false = v.tick := fun v => rfl
  rw [one, fourth] at four
  refine ⟨tima, reload, fun n hn => ?_, ?_, ?_⟩
  · rw [quiet n hn]
    exact tima
  · rw [four]
    exact tma
  · rw [four]
    rfl

/-- The tick that ends a period of an enabled timer counts. -/
theorem Timer.tick_counts {t : Timer} (enabled : t.tac.getLsbD 2 = true) (hphase : t.phase + 1 = t.period)
    (hreload : t.reloadDelay = 0) (htima : t.tima ≠ 0xFF#8) :
    t.tick = ({ t with div16 := t.div16 + 1#16, tima := t.tima + 1#8 }, false) := by
  have countdown : t.countdown = t := if_pos hreload
  rw [Timer.tick_eq, if_pos ⟨enabled, hphase⟩, countdown]
  exact if_neg htima

/-- The tick that ends a period, and then less than a period: TIMA counts once. -/
theorem Timer.advance_past_end {t : Timer} {n : Nat} (enabled : t.tac.getLsbD 2 = true)
    (hphase : t.phase + 1 = t.period) (hreload : t.reloadDelay = 0) (htima : t.tima ≠ 0xFF#8) (hn : n < t.period) :
    (Timer.advance (n + 1) t false).1.tima = t.tima + 1#8 ∧ (Timer.advance (n + 1) t false).2 = false := by
  have next : Timer.phase { t with div16 := t.div16 + 1#16, tima := t.tima + 1#8 } = 0 :=
    t.phase_succ.trans (if_pos hphase)
  have quiet := Timer.advance_quiet n (t := { t with div16 := t.div16 + 1#16, tima := t.tima + 1#8 })
    (by rw [next, Nat.zero_add]; exact hn) (.inl hreload)
  rw [Timer.advance_succ, Timer.tick_counts enabled hphase hreload htima, quiet]
  exact ⟨rfl, rfl⟩

/-- An advance by a period counts TIMA once, whatever the phase. -/
theorem Timer.advance_period {t : Timer} (enabled : t.tac.getLsbD 2 = true) (hreload : t.reloadDelay = 0)
    (htima : t.tima ≠ 0xFF#8) : (Timer.advance t.period t false).1.tima = t.tima + 1#8 ∧
      (Timer.advance t.period t false).2 = false := by
  have hlt := t.phase_lt
  obtain ⟨m, hm⟩ : ∃ m, t.period = m + (t.phase + 1) := ⟨t.period - (t.phase + 1), by omega⟩
  have before := Timer.advance_quiet m (t := t) (by omega) (.inl hreload)
  have last := Timer.phase_add (t := t) (n := m) (by omega)
  generalize ht1 : ({ t with div16 := t.div16 + BitVec.ofNat 16 m, reloadDelay := t.reloadDelay - m } : Timer) = t1
    at before
  have phase : t1.phase + 1 = t1.period := by
    subst ht1
    exact (congrArg (· + 1) last).trans (by show t.phase + m + 1 = t.period; omega)
  have reload : t1.reloadDelay = 0 := by
    rw [← ht1]
    show t.reloadDelay - m = 0
    omega
  have past := Timer.advance_past_end (t := t1) (n := t.phase) (by rw [← ht1]; exact enabled) phase reload
    (by rw [← ht1]; exact htima) (by rw [← ht1]; exact hlt)
  rw [hm, Timer.advance_add, before, Bool.false_or, past.1, ← ht1]
  exact ⟨rfl, ht1 ▸ past.2⟩

/-- Settles O52: the divider counts every tick; a period has one end. -/
theorem timerCountsOncePerPeriod : Obligations.TimerCountsOncePerPeriod := by
  refine ⟨fun n t => ?_, fun t period enabled hreload htima hperiod => ?_⟩
  · rw [(Timer.advance_keeps n t false).1, BitVec.toNat_add, BitVec.toNat_ofNat, Nat.add_mod_mod]
  · obtain rfl : period = t.period := by
      obtain ⟨hrate, -, h⟩ | ⟨hrate, -, h⟩ | ⟨hrate, -, h⟩ | ⟨hrate, -, h⟩ := t.period_cases <;>
        simpa [hrate, h] using hperiod
    exact Timer.advance_period enabled hreload htima

end Sys2Proof.Machine
end

section
/-! PROOF. The video controller: mode entry, the compositor, the sprite buffer, the scanline and the frame
(spec/60_exceptions.md R354 to R364). -/

namespace Sys2Proof.Machine

/-! Mode entry and the display switch. -/

theorem modeEntryMask_eq (stat : Byte) (m : VideoMode) : modeEntryMask stat m =
    (BitVec.ofBool ((decide (m = .hblank) && stat.getLsbD 3) || (decide (m = .vblank) && stat.getLsbD 4) ||
      (decide (m = .oamScan) && stat.getLsbD 5)) ++ BitVec.ofBool (decide (m = .vblank))).setWidth 5 := by
  unfold modeEntryMask
  generalize stat.getLsbD 3 = b3, stat.getLsbD 4 = b4, stat.getLsbD 5 = b5
  revert b3 b4 b5
  cases m with
  | hblank | vblank | oamScan | drawing => decide

theorem lyMatches_eq (p : Ppu) : p.lyMatches = decide (p.ly = p.lyc.toNat) := rfl

theorem coincidence_mask (p : Ppu) : p.coincidence.2 =
    if p.ly = p.lyc.toNat ∧ p.stat.getLsbD 6 = true then 0b00010#5 else 0#5 := by
  rw [Ppu.coincidence, lyMatches_eq]
  simp only [Bool.and_eq_true, decide_eq_true_eq]

/-- A display that is off is frozen (R359). -/
theorem advance_of_off {p : Ppu} (h : p.lcdc.getLsbD 7 = false) (mem : Memory) (len : Option Nat) (n : Nat)
    (mask : BitVec 5) : Ppu.advance mem len n p mask = (p, mask) := by
  have tick : p.tick mem len = (p, 0#5) := if_neg (by rw [h]; decide)
  induction n with
  | zero => rfl
  | succ n ih => rw [Ppu.advance_step, tick, BitVec.or_zero, ih]

/-- Settles O53: mode entry and the coincidence check by definition, the display switch by its three cases. -/
theorem modeEntryAndDisplaySwitch : Obligations.ModeEntryAndDisplaySwitch := by
  refine fun p m v => ⟨congrArg (Prod.mk _) (modeEntryMask_eq p.stat m), ⟨rfl, rfl, rfl, rfl⟩,
    congrArg (Prod.mk _) (coincidence_mask p), fun hon hoff => ?_, fun hoff hon => ?_, fun hsame => ?_, advance_of_off⟩
  · rw [Ppu.writeLcdc, hon, hoff]
    rfl
  · have write : p.writeLcdc v = Ppu.startLine { p with lcdc := v, ly := 0, dot := 0, winLine := 0 } .oamScan := by
      rw [Ppu.writeLcdc, hon, hoff]
      rfl
    rw [write]
    exact ⟨_, _, _, rfl, rfl, rfl⟩
  · rw [Ppu.writeLcdc, hsame, Bool.and_not_self, Bool.not_and_self]
    rfl

/-! The compositor. -/

/-- A palette's two bits of an index (R364). -/
theorem toNat_paletteShade (pal : Byte) (k : BitVec 2) :
    (paletteShade pal k).toNat = pal.toNat / 4 ^ k.toNat % 4 := by
  rw [paletteShade, BitVec.toNat_setWidth, BitVec.extractLsb'_toNat, Nat.shiftRight_eq_div_pow, Nat.pow_mul]
  exact Nat.mod_eq_of_lt (Nat.lt_trans (Nat.mod_lt _ (by decide)) (by decide))

/-- Settles O57: the two ways to write the priority test agree. -/
theorem compositorPixelChoice : Obligations.CompositorPixelChoice := by
  refine fun p bg sp => ⟨toNat_paletteShade, rfl, if_congr (and_congr_right fun _ => ?_) rfl rfl⟩
  rw [not_and_or, not_not, Bool.not_eq_true, or_comm]
  rfl

/-! The sprite buffer. -/

/-- The selection walks the table in order and stops when there is no room (R358). -/
theorem selectSprites_eq (mem : Memory) (p : Ppu) (n k room : Nat) : p.selectSprites mem n k room =
    (((List.range' k n).map (oamEntry mem)).filter p.onLine).take room := by
  induction n generalizing k room with
  | zero => exact List.take_nil.symm
  | succ n ih =>
    rw [Ppu.selectSprites, List.range'_succ, List.map_cons, List.filter_cons]
    cases room with
    | zero => rfl
    | succ room =>
      rw [if_neg (Nat.succ_ne_zero room)]
      split
      · rw [ih, List.take_succ_cons]
        rfl
      · exact ih (k + 1) (room + 1)

/-- Render order: by X, then by table index (R358). -/
def Sprite.Before (s1 s2 : Sprite) : Prop :=
  s1.x.toNat < s2.x.toNat ∨ (s1.x.toNat = s2.x.toNat ∧ s1.index < s2.index)

/-- Insertion behind the sprites of the same X keeps the order, for a sprite later in the table than all others. -/
theorem insertByX_pairwise {sp : Sprite} {l : List Sprite} (hl : l.Pairwise Sprite.Before)
    (hsp : ∀ q ∈ l, q.index < sp.index) : (insertByX sp l).Pairwise Sprite.Before := by
  induction l with
  | nil => exact List.pairwise_singleton _ _
  | cons q qs ih =>
    obtain ⟨hq, hqs⟩ := List.pairwise_cons.1 hl
    obtain ⟨hindex, hindexes⟩ := List.forall_mem_cons.1 hsp
    unfold insertByX
    split
    · next hx =>
      refine List.pairwise_cons.2 ⟨fun r hr => ?_, ih hqs hindexes⟩
      obtain rfl | hr := List.mem_cons.1 ((insertByX_perm sp qs).mem_iff.1 hr)
      · exact (Nat.lt_or_eq_of_le hx).imp_right fun h => ⟨h, hindex⟩
      · exact hq r hr
    · next hx =>
      refine List.pairwise_cons.2 ⟨fun r hr => .inl ?_, hl⟩
      obtain rfl | hr := List.mem_cons.1 hr
      · omega
      · have := hq r hr
        unfold Sprite.Before at this
        omega

theorem foldl_insertByX_pairwise {l acc : List Sprite} (hl : l.Pairwise fun s1 s2 => s1.index < s2.index)
    (hacc : acc.Pairwise Sprite.Before) (hlater : ∀ q ∈ acc, ∀ sp ∈ l, q.index < sp.index) :
    (l.foldl (fun acc sp => insertByX sp acc) acc).Pairwise Sprite.Before := by
  induction l generalizing acc with
  | nil => exact hacc
  | cons sp l ih =>
    obtain ⟨hsp, hl⟩ := List.pairwise_cons.1 hl
    refine ih hl (insertByX_pairwise hacc fun q hq => hlater q hq sp List.mem_cons_self) fun q hq r hr => ?_
    obtain rfl | hq := List.mem_cons.1 ((insertByX_perm sp acc).mem_iff.1 hq)
    · exact hsp r hr
    · exact hlater q hq r (List.mem_cons_of_mem _ hr)

theorem selectSprites_index (mem : Memory) (p : Ppu) (n k room : Nat) :
    (p.selectSprites mem n k room).Pairwise fun s1 s2 => s1.index < s2.index := by
  rw [selectSprites_eq]
  have table : ((List.range' k n).map (oamEntry mem)).Pairwise fun s1 s2 => s1.index < s2.index :=
    List.pairwise_map.2 List.pairwise_lt_range'
  exact table.sublist ((List.take_sublist _ _).trans List.filter_sublist)

/-- Settles O56: the selection takes the first entries on the line, and stable insertion orders it. -/
theorem spriteBufferSelection : Obligations.SpriteBufferSelection := by
  intro mem p
  refine ⟨Ppu.buildSprites_length mem p, ?_, ?_⟩
  · refine (sortByX_perm _).trans (List.Perm.of_eq ?_)
    rw [selectSprites_eq, List.range_eq_range']
    rfl
  · exact foldl_insertByX_pairwise (selectSprites_index mem p 40 0 10) .nil nofun

/-! The scanline. -/

/-- An advance in two parts. -/
theorem Ppu.advance_add (mem : Memory) (len : Option Nat) (m n : Nat) (p : Ppu) : Ppu.advance mem len (m + n) p 0#5 =
    ((Ppu.advance mem len n (Ppu.advance mem len m p 0#5).1 0#5).1, (Ppu.advance mem len m p 0#5).2 |||
      (Ppu.advance mem len n (Ppu.advance mem len m p 0#5).1 0#5).2) := by
  induction m generalizing p with
  | zero => rw [Nat.zero_add]; exact Prod.ext rfl (BitVec.zero_or).symm
  | succ m ih => rw [Nat.add_right_comm, Ppu.advance_succ, ih, Ppu.advance_succ mem len m, BitVec.or_assoc]

/-- An advance by one more tick. -/
theorem Ppu.advance_tick (mem : Memory) (len : Option Nat) (n : Nat) (p : Ppu) : Ppu.advance mem len (n + 1) p 0#5 =
    (((Ppu.advance mem len n p 0#5).1.tick mem len).1, (Ppu.advance mem len n p 0#5).2 |||
      ((Ppu.advance mem len n p 0#5).1.tick mem len).2) := by
  rw [Ppu.advance_add, Ppu.advance_step, BitVec.zero_or]
  rfl

theorem Ppu.tick_of_on {p : Ppu} (h : p.lcdc.getLsbD 7 = true) (mem : Memory) (len : Option Nat) :
    p.tick mem len = Ppu.dotStep mem len { p with dot := p.dot + 1 } := if_pos h

theorem Ppu.tick_lcdc (mem : Memory) (len : Option Nat) (p : Ppu) : (p.tick mem len).1.lcdc = p.lcdc := by
  unfold Ppu.tick
  split
  · exact Ppu.dotStep_lcdc mem len _
  · rfl

theorem Ppu.advance_lcdc (mem : Memory) (len : Option Nat) (n : Nat) (p : Ppu) :
    (Ppu.advance mem len n p 0#5).1.lcdc = p.lcdc := by
  induction n with
  | zero => rfl
  | succ n ih => rw [Ppu.advance_tick, Ppu.tick_lcdc, ih]

/-- The modes an enabled display can be in at dot `d` of line `ly` (R354). -/
def VideoMode.Fits (ly d : Nat) : VideoMode → Prop
  | .oamScan => ly < 144 ∧ d < 80
  | .drawing => ly < 144 ∧ 80 ≤ d ∧ d < 369
  | .hblank => ly < 144 ∧ 80 < d
  | .vblank => 144 ≤ ly

/-- An enabled display at dot `d` of line `ly`. -/
structure Ppu.AtDot (ly d : Nat) (p : Ppu) : Prop where
  on : p.lcdc.getLsbD 7 = true
  line : p.ly = ly
  dot : p.dot = d
  mode : p.mode.Fits ly d

/-- Only entering VBLANK requests the VBlank interrupt (R356). -/
theorem modeEntryMask_vblank (stat : Byte) (m : VideoMode) :
    (modeEntryMask stat m).getLsbD 0 = decide (m = .vblank) := by
  rw [modeEntryMask_eq, BitVec.getLsbD_setWidth, BitVec.getLsbD_append]
  simp

theorem coincidence_vblank (p : Ppu) : p.coincidence.2.getLsbD 0 = false := by
  show (if _ then _ else _ : BitVec 5).getLsbD 0 = _
  split <;> decide

theorem startLine_vblank (p : Ppu) (m : VideoMode) : (p.startLine m).2.getLsbD 0 = decide (m = .vblank) := by
  rw [Ppu.startLine, BitVec.getLsbD_or, coincidence_vblank, Bool.or_false]
  exact modeEntryMask_vblank _ m

theorem dot_ne_cap_of_not_drawingDone {len : Option Nat} {p : Ppu} (h : ¬ p.drawingDone len = true) : p.dot ≠ 369 := by
  intro hcap
  refine h ?_
  unfold Ppu.drawingDone
  split <;> exact Bool.or_eq_true_iff.2 (.inr (decide_eq_true hcap))

/-- Before the last dot of a line a tick moves to the next dot of it and makes no VBlank request. -/
theorem Ppu.AtDot.tick {ly d : Nat} {p : Ppu} (h : p.AtDot ly d) (hd : d + 1 < 456) (mem : Memory)
    (len : Option Nat) : (p.tick mem len).1.AtDot ly (d + 1) ∧ (p.tick mem len).2.getLsbD 0 = false := by
  obtain ⟨on, rfl, rfl, fits⟩ := h
  rw [Ppu.tick_of_on on, Ppu.dotStep]
  split
  · next hm =>
    obtain ⟨hly, hdot⟩ : p.ly < 144 ∧ p.dot < 80 := by rwa [show p.mode = _ from hm] at fits
    split
    · next h80 => exact ⟨⟨on, rfl, rfl, hly, h80.ge, h80.trans_lt (by decide)⟩, modeEntryMask_vblank p.stat .drawing⟩
    · next h80 =>
      refine ⟨⟨on, rfl, rfl, ?_⟩, BitVec.getLsbD_zero⟩
      rw [show p.mode = _ from hm]
      exact ⟨hly, Nat.lt_of_le_of_ne hdot h80⟩
  · next hm =>
    obtain ⟨hly, hstart, hend⟩ : p.ly < 144 ∧ 80 ≤ p.dot ∧ p.dot < 369 := by
      rwa [show p.mode = _ from hm] at fits
    have draws := Ppu.renderDot_draws mem len { p with dot := p.dot + 1 }
    have on' := draws.lcdc ▸ on
    split
    · refine ⟨⟨on', draws.ly, draws.dot, hly, Nat.lt_succ_of_le hstart⟩, modeEntryMask_vblank _ .hblank⟩
    · next hdone =>
      refine ⟨⟨on', draws.ly, draws.dot, ?_⟩, BitVec.getLsbD_zero⟩
      rw [draws.mode, show p.mode = _ from hm]
      exact ⟨hly, Nat.le_succ_of_le hstart,
        Nat.lt_of_le_of_ne hend fun cap => dot_ne_cap_of_not_drawingDone hdone (draws.dot.trans cap)⟩
  · next hm =>
    obtain ⟨hly, hdot⟩ : p.ly < 144 ∧ 80 < p.dot := by rwa [show p.mode = _ from hm] at fits
    rw [if_neg hd.ne]
    refine ⟨⟨on, rfl, rfl, ?_⟩, BitVec.getLsbD_zero⟩
    rw [show p.mode = _ from hm]
    exact ⟨hly, Nat.lt_succ_of_lt hdot⟩
  · next hm =>
    rw [if_neg hd.ne]
    refine ⟨⟨on, rfl, rfl, ?_⟩, BitVec.getLsbD_zero⟩
    rw [show p.mode = _ from hm] at fits ⊢
    exact fits

/-- The line after line `ly` (R354). -/
def lineAfter (ly : Nat) : Nat := if ly + 1 = 154 then 0 else ly + 1

/-- The last dot of a line: the next line begins, with the VBlank request after line 143 alone, and the
window-line counter is cleared after line 153. -/
theorem Ppu.AtDot.tick_last {ly : Nat} {p : Ppu} (h : p.AtDot ly 455) (mem : Memory) (len : Option Nat) :
    (p.tick mem len).1.AtDot (lineAfter ly) 0 ∧ (p.tick mem len).2.getLsbD 0 = decide (ly = 143) ∧
      (ly = 153 → (p.tick mem len).1.winLine = 0) := by
  obtain ⟨on, rfl, hdot, fits⟩ := h
  have last : p.dot + 1 = 456 := congrArg (· + 1) hdot
  rw [Ppu.tick_of_on on, Ppu.dotStep]
  split
  · next hm => rw [show p.mode = _ from hm] at fits; exact absurd fits.2 (by decide)
  · next hm => rw [show p.mode = _ from hm] at fits; exact absurd fits.2.2 (by decide)
  · next hm =>
    have hly : p.ly < 144 := by rw [show p.mode = _ from hm] at fits; exact fits.1
    rw [if_pos last, lineAfter, if_neg (by omega), startLine_vblank]
    refine ⟨⟨on, rfl, rfl, ?_⟩, ?_, fun h153 => absurd h153 (by omega)⟩
    · show VideoMode.Fits (p.ly + 1) 0 (if p.ly + 1 = 144 then _ else _)
      split
      · next h144 => exact h144.ge
      · next h144 => exact ⟨by omega, by decide⟩
    · simp
  · next hm =>
    have hly : 144 ≤ p.ly := by rw [show p.mode = _ from hm] at fits; exact fits
    rw [if_pos last, lineAfter, decide_eq_false (by omega)]
    split
    · exact ⟨⟨on, rfl, rfl, by decide, by decide⟩, startLine_vblank _ _, fun _ => rfl⟩
    · next h154 =>
      refine ⟨⟨on, rfl, rfl, ?_⟩, coincidence_vblank _, fun h153 => absurd h153 (by omega)⟩
      show VideoMode.Fits (p.ly + 1) 0 p.mode
      rw [show p.mode = _ from hm]
      exact Nat.le_succ_of_le hly

theorem Ppu.AtDot.advance {ly n : Nat} {p : Ppu} (h : p.AtDot ly 0) (hn : n < 456) (mem : Memory)
    (len : Option Nat) : (Ppu.advance mem len n p 0#5).1.AtDot ly n ∧
      (Ppu.advance mem len n p 0#5).2.getLsbD 0 = false := by
  induction n with
  | zero => exact ⟨h, BitVec.getLsbD_zero⟩
  | succ n ih =>
    obtain ⟨place, quiet⟩ := ih (Nat.lt_of_succ_lt hn)
    obtain ⟨place', quiet'⟩ := place.tick hn mem len
    rw [Ppu.advance_tick]
    exact ⟨place', by rw [BitVec.getLsbD_or, quiet, quiet']; rfl⟩

/-- A whole line is 456 dots. -/
theorem Ppu.AtDot.advance_line {ly : Nat} {p : Ppu} (h : p.AtDot ly 0) (mem : Memory) (len : Option Nat) :
    (Ppu.advance mem len 456 p 0#5).1.AtDot (lineAfter ly) 0 ∧
      (Ppu.advance mem len 456 p 0#5).2.getLsbD 0 = decide (ly = 143) ∧
      (ly = 153 → (Ppu.advance mem len 456 p 0#5).1.winLine = 0) := by
  obtain ⟨place, quiet⟩ := h.advance (n := 455) (by decide) mem len
  obtain ⟨place', vblank, window⟩ := place.tick_last mem len
  rw [show 456 = 455 + 1 from rfl, Ppu.advance_tick]
  exact ⟨place', by rw [BitVec.getLsbD_or, quiet, vblank]; rfl, window⟩

/-- The lines of a frame before the last: the VBlank request is made once line 143 is over. -/
theorem Ppu.AtDot.advance_lines {k : Nat} {p : Ppu} (h : p.AtDot 0 0) (hk : k < 154) (mem : Memory)
    (len : Option Nat) : (Ppu.advance mem len (456 * k) p 0#5).1.AtDot k 0 ∧
      (Ppu.advance mem len (456 * k) p 0#5).2.getLsbD 0 = decide (143 < k) := by
  induction k with
  | zero => exact ⟨h, BitVec.getLsbD_zero⟩
  | succ k ih =>
    obtain ⟨place, before⟩ := ih (Nat.lt_of_succ_lt hk)
    obtain ⟨place', request, -⟩ := place.advance_line mem len
    rw [lineAfter, if_neg hk.ne] at place'
    rw [Nat.mul_succ, Ppu.advance_add]
    refine ⟨place', ?_⟩
    rw [BitVec.getLsbD_or, before, request, ← Bool.decide_or]
    exact decide_eq_decide.2 (by omega)

/-- Settles O54: the dots of the line one by one, then its last tick. -/
theorem scanlineIs456Dots : Obligations.ScanlineIs456Dots := by
  intro mem len p on hm hdot hly
  have start : p.AtDot p.ly 0 := ⟨on, rfl, hdot, by rw [hm]; exact ⟨hly, by decide⟩⟩
  have mode_at {n : Nat} (hn : n < 456) := (start.advance hn mem len).1.mode
  refine ⟨fun n hn => ?_, ?_, _, _, Prod.mk.eta.symm, ?_⟩
  · have fits := mode_at (Nat.lt_trans hn (by decide))
    revert fits
    cases (Ppu.advance mem len n p 0#5).1.mode with
    | oamScan => exact fun _ => rfl
    | drawing => exact fun fits => absurd hn (Nat.not_lt.2 fits.2.1)
    | hblank => exact fun fits => absurd hn (Nat.lt_asymm fits.2)
    | vblank => exact fun fits => absurd hly (Nat.not_lt.2 fits)
  · have fits := mode_at (n := 80) (by decide)
    revert fits
    cases (Ppu.advance mem len 80 p 0#5).1.mode with
    | drawing => exact fun _ => rfl
    | oamScan | hblank => exact fun fits => absurd fits.2 (Nat.lt_irrefl 80)
    | vblank => exact fun fits => absurd hly (Nat.not_lt.2 fits)
  · obtain ⟨⟨-, line, dot, fits⟩, vblank, -⟩ := start.advance_line mem len
    have next : lineAfter p.ly = p.ly + 1 := if_neg (by omega)
    rw [next] at line fits
    refine ⟨dot, line, Ppu.advance_lcdc mem len 456 p, ?_, vblank⟩
    revert fits
    cases (Ppu.advance mem len 456 p 0#5).1.mode with
    | oamScan => exact fun fits => (if_neg fun h => absurd (h ▸ fits.1) (by decide)).symm
    | drawing => exact fun fits => absurd fits.2.1 (by decide)
    | hblank => exact fun fits => absurd fits.2 (by decide)
    | vblank => exact fun fits => (if_pos (Nat.le_antisymm (Nat.le_of_lt_succ hly) (Nat.le_of_succ_le_succ fits))).symm

/-- Settles O55: 153 lines, then line 153. -/
theorem frameIs70224Dots : Obligations.FrameIs70224Dots := by
  intro mem len p on hm hdot hly
  have start : p.AtDot 0 0 := ⟨on, hly, hdot, by rw [hm]; exact ⟨by decide, by decide⟩⟩
  obtain ⟨place, request⟩ := start.advance_lines (k := 153) (by decide) mem len
  obtain ⟨⟨-, line, dot, fits⟩, -, window⟩ := place.advance_line mem len
  rw [show 70224 = 456 * 153 + 456 from rfl, Ppu.advance_add]
  refine ⟨_, _, rfl, ?_, dot, line, window rfl, ?_, ?_⟩
  · revert fits
    cases (Ppu.advance mem len 456 (Ppu.advance mem len (456 * 153) p 0#5).1 0#5).1.mode with
    | oamScan => exact fun _ => rfl
    | drawing => exact fun fits => absurd fits.2.1 (by decide)
    | hblank => exact fun fits => absurd fits.2 (by decide)
    | vblank => exact fun fits => absurd (show 144 ≤ 0 from fits) (by decide)
  · rw [Ppu.advance_lcdc, Ppu.advance_lcdc]
  · rw [BitVec.getLsbD_or, request]
    rfl

end Sys2Proof.Machine
end
